-- ==== Sys2Proof/Word.lean ====
section
/-!
DEFINITION. The bit vectors of the hardware: a byte, a halfword, a word (R10, R11 of spec/00_scope.md), and the
4-bit register number (R22 of spec/10_state.md). Arithmetic on them is that of `BitVec`, modulo 2^n (R11).
-/

namespace Sys2Proof

/-- 8 bits (R10). -/
abbrev Byte := BitVec 8

/-- 16 bits (R10). -/
abbrev Half := BitVec 16

/-- 32 bits (R10): a register value, an address, an instruction of the 32-bit encoding. -/
abbrev Word := BitVec 32

/-- The number of a live general register, 0 to 15: a 4-bit field of the 32-bit encoding (R22), and `H : Rs` of
format 5 of the 16-bit encoding (R124). -/
abbrev Reg := BitVec 4

end Sys2Proof
end

