-- ==== Sys2Proof/Config.lean ====
section
/-!
DEFINITION. The implementation parameters of R9 (spec/00_scope.md): those to which this hardware gives a value, and
the four cost functions, which the memory subsystem supplies and about which nothing is known.
-/

namespace Sys2Proof

/-- What condition pattern 15 means: the three rows of R183's table (spec/41_condition_and_operand.md). -/
inductive Cond15 where
  | always
  | never
  | illegal
  deriving DecidableEq, Repr

/-- `COND15`: the value this hardware takes (R9, R183). Log 15. -/
def Config.cond15 : Cond15 := .always

/-- `STORE_PC_OFFSET`: a stored register 15 is the instruction's address plus this (R9, R278, R306). Log 15. -/
def Config.storePcOffset : Word := 12#32

/-- `VECTOR_IRQ` (R9, R74). -/
def Config.vectorIrq : Word := 0x00000018#32

/-- `VECTOR_SWI` (R9, R74). -/
def Config.vectorSwi : Word := 0x00000008#32

/-- `RESET_ENTRY`: the argument of the reset that makes `State.reset`; 0 in the source's scenario 1 (R9, R480).
DESIGN CHOICE, unsafe on a platform that resets to another entry: log 4. -/
def Config.resetEntry : Word := 0#32

/-- What a byte of the reference memory reads as that nothing has written. The spec leaves the contents of memory at
reset to the platform (U32). DESIGN CHOICE, unsafe: log 2. -/
def Config.unlistedByte : Byte := 0#8

/-- `waitN16(a)`: cycles of a non-sequential 8- or 16-bit access at `a` (R64). No body is known: a parameter supplied
by the memory subsystem (R9). Safe: log 3. -/
opaque Config.waitN16 : Word → Nat

/-- `waitS16(a)`: cycles of a sequential 8- or 16-bit access at `a` (R64). Log 3. -/
opaque Config.waitS16 : Word → Nat

/-- `waitN32(a)`: cycles of a non-sequential 32-bit access at `a` (R64). Log 3. -/
opaque Config.waitN32 : Word → Nat

/-- `waitS32(a)`: cycles of a sequential 32-bit access at `a` (R64). Log 3. -/
opaque Config.waitS32 : Word → Nat

end Sys2Proof
end

