-- ==== Sys2Proof/Syntax.lean ====
section
/-!
DEFINITION. Syntax: the instruction forms of spec/30_encoding.md. One structure per format holds the fields that
format's rows cut from the instruction word; `Instr` has one constructor per row of spec/opcode_table.json. A field
the hardware ignores (R141) is a field here all the same, because a decoded operation holds "the values of that row's
fields cut from `word`" (R101): no bit of an encoding is dropped. Log 16.
-/

namespace Sys2Proof

/-- The condition field, 4 bits (R181): the sixteen patterns in the order of their numbers. -/
inductive Cond where
  | eq | ne | cs | cc | mi | pl | vs | vc | hi | ls | ge | lt | gt | le | al
  /-- Pattern 15, reserved; what it does is `Config.cond15` (R183). -/
  | nv
  deriving DecidableEq, Repr

/-- The shift type, 2 bits (R117). -/
inductive ShiftType where
  | lsl | lsr | asr | ror
  deriving DecidableEq, Repr

/-- The execution state that selects the encoding (R27): `T` = 0 is ARM state, `T` = 1 is Thumb state. -/
inductive ExecState where
  | arm | thumb
  deriving DecidableEq, Repr

/-- The sixteen data-processing operations, in the order of their opcode numbers (R104). -/
inductive DpOp where
  | and | eor | sub | rsb | add | adc | sbc | rsc | tst | teq | cmp | cmn | orr | mov | bic | mvn
  deriving DecidableEq, Repr

/-- Format ARM.DP.imm (R104, R117): operand 2 is `ROR(zext_8(imm8), 2*rot)`. -/
structure DpImm where
  cond : Cond
  s    : Bool
  rn   : Reg
  rd   : Reg
  rot  : BitVec 4
  imm8 : Byte
  deriving DecidableEq, Repr

/-- Format ARM.DP.regimm (R104, R117): operand 2 is a register shifted by a 5-bit immediate. -/
structure DpRegImm where
  cond    : Cond
  s       : Bool
  rn      : Reg
  rd      : Reg
  amount5 : BitVec 5
  ty      : ShiftType
  rm      : Reg
  deriving DecidableEq, Repr

/-- Format ARM.DP.regreg (R104, R117): operand 2 is a register shifted by a register. -/
structure DpRegReg where
  cond : Cond
  s    : Bool
  rn   : Reg
  rd   : Reg
  rs   : Reg
  ty   : ShiftType
  rm   : Reg
  deriving DecidableEq, Repr

/-- Format ARM.MRS (R105). `r`: 0 current status, 1 saved status. -/
structure MrsForm where
  cond : Cond
  r    : Bool
  rd   : Reg
  deriving DecidableEq, Repr

/-- The field mask of MSR, bits 19 to 16 (R105): flags, status, extension, control. -/
structure FieldMask where
  f : Bool
  s : Bool
  x : Bool
  c : Bool
  deriving DecidableEq, Repr

/-- Format ARM.MSR.reg (R105). -/
structure MsrReg where
  cond : Cond
  r    : Bool
  mask : FieldMask
  rm   : Reg
  deriving DecidableEq, Repr

/-- Format ARM.MSR.imm (R105). -/
structure MsrImm where
  cond : Cond
  r    : Bool
  mask : FieldMask
  rot  : BitVec 4
  imm8 : Byte
  deriving DecidableEq, Repr

/-- Format ARM.MUL (R106). `rn` is the accumulate operand of MLA; MUL ignores it. -/
structure MulForm where
  cond : Cond
  s    : Bool
  rd   : Reg
  rn   : Reg
  rs   : Reg
  rm   : Reg
  deriving DecidableEq, Repr

/-- Format ARM.MULL (R106). -/
structure MulLong where
  cond : Cond
  s    : Bool
  rdHi : Reg
  rdLo : Reg
  rs   : Reg
  rm   : Reg
  deriving DecidableEq, Repr

/-- Format ARM.SWP (R107). -/
structure SwpForm where
  cond : Cond
  rn   : Reg
  rd   : Reg
  rm   : Reg
  deriving DecidableEq, Repr

/-- Format ARM.BX (R107). -/
structure BxForm where
  cond : Cond
  rm   : Reg
  deriving DecidableEq, Repr

/-- Format ARM.HDT with a register offset (R108). `ignored` is bits 11:8. -/
structure HdtReg where
  cond    : Cond
  p       : Bool
  u       : Bool
  w       : Bool
  rn      : Reg
  rd      : Reg
  ignored : BitVec 4
  rm      : Reg
  deriving DecidableEq, Repr

/-- Format ARM.HDT with an immediate offset `offHi : offLo` (R108). -/
structure HdtImm where
  cond  : Cond
  p     : Bool
  u     : Bool
  w     : Bool
  rn    : Reg
  rd    : Reg
  offHi : BitVec 4
  offLo : BitVec 4
  deriving DecidableEq, Repr

/-- Format ARM.SDT with a 12-bit immediate offset (R109). P is fixed by the row; `w` is free in the pre-indexed rows,
0 in the post-indexed rows and 1 in the user-mode variants. -/
structure SdtImm where
  cond     : Cond
  u        : Bool
  w        : Bool
  rn       : Reg
  rd       : Reg
  offset12 : BitVec 12
  deriving DecidableEq, Repr

/-- Format ARM.SDT with a shifted register offset (R109). P and W as in `SdtImm`. -/
structure SdtReg where
  cond    : Cond
  u       : Bool
  w       : Bool
  rn      : Reg
  rd      : Reg
  amount5 : BitVec 5
  ty      : ShiftType
  rm      : Reg
  deriving DecidableEq, Repr

/-- Format ARM.BDT (R110). -/
structure BdtForm where
  cond  : Cond
  p     : Bool
  u     : Bool
  s     : Bool
  w     : Bool
  rn    : Reg
  rlist : BitVec 16
  deriving DecidableEq, Repr

/-- Format ARM.B (R111). -/
structure BranchForm where
  cond  : Cond
  imm24 : BitVec 24
  deriving DecidableEq, Repr

/-- Format ARM.CDT (R112). -/
structure CdtForm where
  cond    : Cond
  p       : Bool
  u       : Bool
  n       : Bool
  w       : Bool
  rn      : Reg
  crd     : BitVec 4
  cp      : BitVec 4
  offset8 : Byte
  deriving DecidableEq, Repr

/-- Format ARM.CDO (R112). -/
structure CdoForm where
  cond : Cond
  opc1 : BitVec 4
  crn  : BitVec 4
  crd  : BitVec 4
  cp   : BitVec 4
  opc2 : BitVec 3
  crm  : BitVec 4
  deriving DecidableEq, Repr

/-- Format ARM.CRT (R112). -/
structure CrtForm where
  cond : Cond
  opc1 : BitVec 3
  crn  : BitVec 4
  rd   : Reg
  cp   : BitVec 4
  opc2 : BitVec 3
  crm  : BitVec 4
  deriving DecidableEq, Repr

/-- Format ARM.SWI (R113). The comment field is ignored by the hardware. -/
structure SwiForm where
  cond      : Cond
  comment24 : BitVec 24
  deriving DecidableEq, Repr

/-- Thumb format 1 (R120). -/
structure TShift where
  offset5 : BitVec 5
  rs      : Reg
  rd      : Reg
  deriving DecidableEq, Repr

/-- Thumb format 2, register operand (R121). -/
structure TAddSubReg where
  rn : Reg
  rs : Reg
  rd : Reg
  deriving DecidableEq, Repr

/-- Thumb format 2, 3-bit immediate (R121). -/
structure TAddSubImm where
  offset3 : BitVec 3
  rs      : Reg
  rd      : Reg
  deriving DecidableEq, Repr

/-- Thumb format 3 (R122). -/
structure TImm8 where
  rd      : Reg
  offset8 : Byte
  deriving DecidableEq, Repr

/-- Thumb format 4 (R123). -/
structure TAlu where
  rs : Reg
  rd : Reg
  deriving DecidableEq, Repr

/-- Thumb format 5 other than BX (R124): `rs` is `H2 : Rs` and `rd` is `H1 : Rd`, any of the sixteen. -/
structure THigh where
  rs : Reg
  rd : Reg
  deriving DecidableEq, Repr

/-- Thumb format 5, BX (R124): `rs` is `H2 : Rs`, any of the sixteen. -/
structure TBxForm where
  rs : Reg
  deriving DecidableEq, Repr

/-- Thumb formats 6, 11 and 12: a low register and an 8-bit word offset (R125, R130, R131). -/
structure TRdWord8 where
  rd    : Reg
  word8 : Byte
  deriving DecidableEq, Repr

/-- Thumb formats 7 and 8: register offset (R126, R127). -/
structure TRegOff where
  ro : Reg
  rb : Reg
  rd : Reg
  deriving DecidableEq, Repr

/-- Thumb formats 9 and 10: 5-bit immediate offset (R128, R129). -/
structure TImmOff where
  offset5 : BitVec 5
  rb      : Reg
  rd      : Reg
  deriving DecidableEq, Repr

/-- Thumb format 14 (R133): `r` adds `x[14]` to a PUSH and `x[15]` to a POP. -/
structure TPushPop where
  r     : Bool
  rlist : Byte
  deriving DecidableEq, Repr

/-- Thumb format 15 (R134). -/
structure TBlock where
  rb    : Reg
  rlist : Byte
  deriving DecidableEq, Repr

/-- The instructions: one constructor per row of spec/opcode_table.json, in the table's order. The comment on each is
the row's id and the rule that gives its meaning. A constructor beginning with `t` is of the 16-bit encoding. -/
inductive Instr where
  /-- AND.imm (R215) -/
  | andImm (f : DpImm)
  /-- AND.regimm (R215) -/
  | andRegImm (f : DpRegImm)
  /-- AND.regreg (R215) -/
  | andRegReg (f : DpRegReg)
  /-- EOR.imm (R216) -/
  | eorImm (f : DpImm)
  /-- EOR.regimm (R216) -/
  | eorRegImm (f : DpRegImm)
  /-- EOR.regreg (R216) -/
  | eorRegReg (f : DpRegReg)
  /-- SUB.imm (R217) -/
  | subImm (f : DpImm)
  /-- SUB.regimm (R217) -/
  | subRegImm (f : DpRegImm)
  /-- SUB.regreg (R217) -/
  | subRegReg (f : DpRegReg)
  /-- RSB.imm (R218) -/
  | rsbImm (f : DpImm)
  /-- RSB.regimm (R218) -/
  | rsbRegImm (f : DpRegImm)
  /-- RSB.regreg (R218) -/
  | rsbRegReg (f : DpRegReg)
  /-- ADD.imm (R219) -/
  | addImm (f : DpImm)
  /-- ADD.regimm (R219) -/
  | addRegImm (f : DpRegImm)
  /-- ADD.regreg (R219) -/
  | addRegReg (f : DpRegReg)
  /-- ADC.imm (R220) -/
  | adcImm (f : DpImm)
  /-- ADC.regimm (R220) -/
  | adcRegImm (f : DpRegImm)
  /-- ADC.regreg (R220) -/
  | adcRegReg (f : DpRegReg)
  /-- SBC.imm (R221) -/
  | sbcImm (f : DpImm)
  /-- SBC.regimm (R221) -/
  | sbcRegImm (f : DpRegImm)
  /-- SBC.regreg (R221) -/
  | sbcRegReg (f : DpRegReg)
  /-- RSC.imm (R222) -/
  | rscImm (f : DpImm)
  /-- RSC.regimm (R222) -/
  | rscRegImm (f : DpRegImm)
  /-- RSC.regreg (R222) -/
  | rscRegReg (f : DpRegReg)
  /-- TST.imm (R223) -/
  | tstImm (f : DpImm)
  /-- TST.regimm (R223) -/
  | tstRegImm (f : DpRegImm)
  /-- TST.regreg (R223) -/
  | tstRegReg (f : DpRegReg)
  /-- TEQ.imm (R224) -/
  | teqImm (f : DpImm)
  /-- TEQ.regimm (R224) -/
  | teqRegImm (f : DpRegImm)
  /-- TEQ.regreg (R224) -/
  | teqRegReg (f : DpRegReg)
  /-- CMP.imm (R225) -/
  | cmpImm (f : DpImm)
  /-- CMP.regimm (R225) -/
  | cmpRegImm (f : DpRegImm)
  /-- CMP.regreg (R225) -/
  | cmpRegReg (f : DpRegReg)
  /-- CMN.imm (R226) -/
  | cmnImm (f : DpImm)
  /-- CMN.regimm (R226) -/
  | cmnRegImm (f : DpRegImm)
  /-- CMN.regreg (R226) -/
  | cmnRegReg (f : DpRegReg)
  /-- ORR.imm (R227) -/
  | orrImm (f : DpImm)
  /-- ORR.regimm (R227) -/
  | orrRegImm (f : DpRegImm)
  /-- ORR.regreg (R227) -/
  | orrRegReg (f : DpRegReg)
  /-- MOV.imm (R228) -/
  | movImm (f : DpImm)
  /-- MOV.regimm (R228) -/
  | movRegImm (f : DpRegImm)
  /-- MOV.regreg (R228) -/
  | movRegReg (f : DpRegReg)
  /-- BIC.imm (R229) -/
  | bicImm (f : DpImm)
  /-- BIC.regimm (R229) -/
  | bicRegImm (f : DpRegImm)
  /-- BIC.regreg (R229) -/
  | bicRegReg (f : DpRegReg)
  /-- MVN.imm (R230) -/
  | mvnImm (f : DpImm)
  /-- MVN.regimm (R230) -/
  | mvnRegImm (f : DpRegImm)
  /-- MVN.regreg (R230) -/
  | mvnRegReg (f : DpRegReg)
  /-- MRS (R315) -/
  | mrs (f : MrsForm)
  /-- MSR.reg (R317) -/
  | msrReg (f : MsrReg)
  /-- MSR.imm (R317) -/
  | msrImm (f : MsrImm)
  /-- MUL (R253) -/
  | mul (f : MulForm)
  /-- MLA (R254) -/
  | mla (f : MulForm)
  /-- UMULL (R255) -/
  | umull (f : MulLong)
  /-- UMLAL (R256) -/
  | umlal (f : MulLong)
  /-- SMULL (R257) -/
  | smull (f : MulLong)
  /-- SMLAL (R258) -/
  | smlal (f : MulLong)
  /-- SWP (R293) -/
  | swp (f : SwpForm)
  /-- SWPB (R294) -/
  | swpb (f : SwpForm)
  /-- BX (R268) -/
  | bx (f : BxForm)
  /-- STRH.reg (R290) -/
  | strhReg (f : HdtReg)
  /-- STRH.imm (R290) -/
  | strhImm (f : HdtImm)
  /-- LDRH.reg (R289) -/
  | ldrhReg (f : HdtReg)
  /-- LDRH.imm (R289) -/
  | ldrhImm (f : HdtImm)
  /-- LDRSB.reg (R291) -/
  | ldrsbReg (f : HdtReg)
  /-- LDRSB.imm (R291) -/
  | ldrsbImm (f : HdtImm)
  /-- LDRSH.reg (R292) -/
  | ldrshReg (f : HdtReg)
  /-- LDRSH.imm (R292) -/
  | ldrshImm (f : HdtImm)
  /-- LDR.imm.pre (R280) -/
  | ldrImmPre (f : SdtImm)
  /-- LDR.imm.post (R280) -/
  | ldrImmPost (f : SdtImm)
  /-- LDRT.imm (R285) -/
  | ldrtImm (f : SdtImm)
  /-- LDR.reg.pre (R280) -/
  | ldrRegPre (f : SdtReg)
  /-- LDR.reg.post (R280) -/
  | ldrRegPost (f : SdtReg)
  /-- LDRT.reg (R285) -/
  | ldrtReg (f : SdtReg)
  /-- STR.imm.pre (R281) -/
  | strImmPre (f : SdtImm)
  /-- STR.imm.post (R281) -/
  | strImmPost (f : SdtImm)
  /-- STRT.imm (R286) -/
  | strtImm (f : SdtImm)
  /-- STR.reg.pre (R281) -/
  | strRegPre (f : SdtReg)
  /-- STR.reg.post (R281) -/
  | strRegPost (f : SdtReg)
  /-- STRT.reg (R286) -/
  | strtReg (f : SdtReg)
  /-- LDRB.imm.pre (R282) -/
  | ldrbImmPre (f : SdtImm)
  /-- LDRB.imm.post (R282) -/
  | ldrbImmPost (f : SdtImm)
  /-- LDRBT.imm (R287) -/
  | ldrbtImm (f : SdtImm)
  /-- LDRB.reg.pre (R282) -/
  | ldrbRegPre (f : SdtReg)
  /-- LDRB.reg.post (R282) -/
  | ldrbRegPost (f : SdtReg)
  /-- LDRBT.reg (R287) -/
  | ldrbtReg (f : SdtReg)
  /-- STRB.imm.pre (R283) -/
  | strbImmPre (f : SdtImm)
  /-- STRB.imm.post (R283) -/
  | strbImmPost (f : SdtImm)
  /-- STRBT.imm (R288) -/
  | strbtImm (f : SdtImm)
  /-- STRB.reg.pre (R283) -/
  | strbRegPre (f : SdtReg)
  /-- STRB.reg.post (R283) -/
  | strbRegPost (f : SdtReg)
  /-- STRBT.reg (R288) -/
  | strbtReg (f : SdtReg)
  /-- LDM (R303) -/
  | ldm (f : BdtForm)
  /-- STM (R304) -/
  | stm (f : BdtForm)
  /-- B (R266) -/
  | b (f : BranchForm)
  /-- BL (R267) -/
  | bl (f : BranchForm)
  /-- STC (R327) -/
  | stc (f : CdtForm)
  /-- LDC (R326) -/
  | ldc (f : CdtForm)
  /-- CDP (R325) -/
  | cdp (f : CdoForm)
  /-- MCR (R328) -/
  | mcr (f : CrtForm)
  /-- MRC (R329) -/
  | mrc (f : CrtForm)
  /-- SWI (R322) -/
  | swi (f : SwiForm)
  /-- T.LSL.imm (R336) -/
  | tLslImm (f : TShift)
  /-- T.LSR.imm (R337) -/
  | tLsrImm (f : TShift)
  /-- T.ASR.imm (R338) -/
  | tAsrImm (f : TShift)
  /-- T.ADD.reg (R340) -/
  | tAddReg (f : TAddSubReg)
  /-- T.SUB.reg (R341) -/
  | tSubReg (f : TAddSubReg)
  /-- T.ADD.imm3 (R342) -/
  | tAddImm3 (f : TAddSubImm)
  /-- T.SUB.imm3 (R343) -/
  | tSubImm3 (f : TAddSubImm)
  /-- T.MOV.imm8 (R345) -/
  | tMovImm8 (f : TImm8)
  /-- T.CMP.imm8 (R346) -/
  | tCmpImm8 (f : TImm8)
  /-- T.ADD.imm8 (R347) -/
  | tAddImm8 (f : TImm8)
  /-- T.SUB.imm8 (R348) -/
  | tSubImm8 (f : TImm8)
  /-- T.AND (R350) -/
  | tAnd (f : TAlu)
  /-- T.EOR (R351) -/
  | tEor (f : TAlu)
  /-- T.LSL.reg (R352) -/
  | tLslReg (f : TAlu)
  /-- T.LSR.reg (R353) -/
  | tLsrReg (f : TAlu)
  /-- T.ASR.reg (R354) -/
  | tAsrReg (f : TAlu)
  /-- T.ADC (R355) -/
  | tAdc (f : TAlu)
  /-- T.SBC (R356) -/
  | tSbc (f : TAlu)
  /-- T.ROR (R357) -/
  | tRor (f : TAlu)
  /-- T.TST (R358) -/
  | tTst (f : TAlu)
  /-- T.NEG (R359) -/
  | tNeg (f : TAlu)
  /-- T.CMP.reg (R360) -/
  | tCmpReg (f : TAlu)
  /-- T.CMN (R361) -/
  | tCmn (f : TAlu)
  /-- T.ORR (R362) -/
  | tOrr (f : TAlu)
  /-- T.MUL (R363) -/
  | tMul (f : TAlu)
  /-- T.BIC (R364) -/
  | tBic (f : TAlu)
  /-- T.MVN (R365) -/
  | tMvn (f : TAlu)
  /-- T.ADD.hi (R371) -/
  | tAddHi (f : THigh)
  /-- T.CMP.hi (R372) -/
  | tCmpHi (f : THigh)
  /-- T.MOV.hi (R373) -/
  | tMovHi (f : THigh)
  /-- T.BX (R374) -/
  | tBx (f : TBxForm)
  /-- T.LDR.pc (R391) -/
  | tLdrPc (f : TRdWord8)
  /-- T.STR.reg (R393) -/
  | tStrReg (f : TRegOff)
  /-- T.STRB.reg (R394) -/
  | tStrbReg (f : TRegOff)
  /-- T.LDR.reg (R395) -/
  | tLdrReg (f : TRegOff)
  /-- T.LDRB.reg (R396) -/
  | tLdrbReg (f : TRegOff)
  /-- T.STRH.reg (R398) -/
  | tStrhReg (f : TRegOff)
  /-- T.LDSB (R399) -/
  | tLdsb (f : TRegOff)
  /-- T.LDRH.reg (R400) -/
  | tLdrhReg (f : TRegOff)
  /-- T.LDSH (R401) -/
  | tLdsh (f : TRegOff)
  /-- T.STR.imm (R403) -/
  | tStrImm (f : TImmOff)
  /-- T.LDR.imm (R404) -/
  | tLdrImm (f : TImmOff)
  /-- T.STRB.imm (R405) -/
  | tStrbImm (f : TImmOff)
  /-- T.LDRB.imm (R406) -/
  | tLdrbImm (f : TImmOff)
  /-- T.STRH.imm (R408) -/
  | tStrhImm (f : TImmOff)
  /-- T.LDRH.imm (R409) -/
  | tLdrhImm (f : TImmOff)
  /-- T.STR.sp (R411) -/
  | tStrSp (f : TRdWord8)
  /-- T.LDR.sp (R412) -/
  | tLdrSp (f : TRdWord8)
  /-- T.ADD.pc (R376) -/
  | tAddPc (f : TRdWord8)
  /-- T.ADD.sp (R377) -/
  | tAddSp (f : TRdWord8)
  /-- T.ADDSP (R378) -/
  | tAddSpImm7 (sword7 : BitVec 7)
  /-- T.SUBSP (R379) -/
  | tSubSpImm7 (sword7 : BitVec 7)
  /-- T.PUSH (R416) -/
  | tPush (f : TPushPop)
  /-- T.POP (R417) -/
  | tPop (f : TPushPop)
  /-- T.STMIA (R419) -/
  | tStmia (f : TBlock)
  /-- T.LDMIA (R420) -/
  | tLdmia (f : TBlock)
  /-- T.BEQ (R422) -/
  | tBeq (soffset8 : BitVec 8)
  /-- T.BNE (R422) -/
  | tBne (soffset8 : BitVec 8)
  /-- T.BCS (R422) -/
  | tBcs (soffset8 : BitVec 8)
  /-- T.BCC (R422) -/
  | tBcc (soffset8 : BitVec 8)
  /-- T.BMI (R422) -/
  | tBmi (soffset8 : BitVec 8)
  /-- T.BPL (R422) -/
  | tBpl (soffset8 : BitVec 8)
  /-- T.BVS (R422) -/
  | tBvs (soffset8 : BitVec 8)
  /-- T.BVC (R422) -/
  | tBvc (soffset8 : BitVec 8)
  /-- T.BHI (R422) -/
  | tBhi (soffset8 : BitVec 8)
  /-- T.BLS (R422) -/
  | tBls (soffset8 : BitVec 8)
  /-- T.BGE (R422) -/
  | tBge (soffset8 : BitVec 8)
  /-- T.BLT (R422) -/
  | tBlt (soffset8 : BitVec 8)
  /-- T.BGT (R422) -/
  | tBgt (soffset8 : BitVec 8)
  /-- T.BLE (R422) -/
  | tBle (soffset8 : BitVec 8)
  /-- T.SWI (R424) -/
  | tSwi (value8 : BitVec 8)
  /-- T.B (R426) -/
  | tB (offset11 : BitVec 11)
  /-- T.BL.hi (R431) -/
  | tBlHi (offset11 : BitVec 11)
  /-- T.BL.lo (R432) -/
  | tBlLo (offset11 : BitVec 11)
  deriving DecidableEq, Repr

/-- The kind of a decoded operation (R101): an instruction of the table, or the special kind `Illegal`, which keeps the
undecodable word (R102). -/
inductive OpKind where
  | instr (i : Instr)
  | illegal (word : Word)
  deriving DecidableEq, Repr

/-- A decoded operation, `(kind, fields, s, writesPC)` (R101, R47). It holds no address. -/
structure DecodedOp where
  kind     : OpKind
  state    : ExecState
  writesPC : Bool
  deriving DecidableEq, Repr

end Sys2Proof
end

