-- ==== Sys2Proof/Decode.lean ====
section
/-!
DEFINITION. The decoder and the encoder of both encodings (spec/30_encoding.md). `decodeArm` is R115 and `decodeThumb`
is R139, test by test in the spec's order; both are total and answer `none` for an undecodable pattern (R102).
`encode` lays an instruction's fields out again, format by format (R104 to R113, R120 to R138). `Instr.writesPC` is
R140, `decodeOp` is `Decode(word, s)` of R101. `Instr.tableRow` is the row of spec/opcode_table.json (R149).
-/

namespace Sys2Proof

/-! ## Numbers of the enumerated fields -/

/-- The condition of a 4-bit pattern (R181). -/
def Cond.ofBits (b : BitVec 4) : Cond :=
  match b.toNat with
  | 0 => .eq | 1 => .ne | 2 => .cs | 3 => .cc | 4 => .mi | 5 => .pl | 6 => .vs | 7 => .vc
  | 8 => .hi | 9 => .ls | 10 => .ge | 11 => .lt | 12 => .gt | 13 => .le | 14 => .al | _ => .nv

/-- The 4-bit pattern of a condition (R181). -/
def Cond.bits : Cond → BitVec 4
  | .eq => 0 | .ne => 1 | .cs => 2 | .cc => 3 | .mi => 4 | .pl => 5 | .vs => 6 | .vc => 7
  | .hi => 8 | .ls => 9 | .ge => 10 | .lt => 11 | .gt => 12 | .le => 13 | .al => 14 | .nv => 15

/-- The shift type of a 2-bit pattern (R117). -/
def ShiftType.ofBits (b : BitVec 2) : ShiftType :=
  match b.toNat with
  | 0 => .lsl | 1 => .lsr | 2 => .asr | _ => .ror

/-- The 2-bit pattern of a shift type (R117). -/
def ShiftType.bits : ShiftType → BitVec 2
  | .lsl => 0 | .lsr => 1 | .asr => 2 | .ror => 3

/-- The data-processing operation of a 4-bit opcode (R104). -/
def DpOp.ofBits (b : BitVec 4) : DpOp :=
  match b.toNat with
  | 0 => .and | 1 => .eor | 2 => .sub | 3 => .rsb | 4 => .add | 5 => .adc | 6 => .sbc | 7 => .rsc
  | 8 => .tst | 9 => .teq | 10 => .cmp | 11 => .cmn | 12 => .orr | 13 => .mov | 14 => .bic | _ => .mvn

/-- The 4-bit opcode of a data-processing operation (R104). -/
def DpOp.bits : DpOp → BitVec 4
  | .and => 0 | .eor => 1 | .sub => 2 | .rsb => 3 | .add => 4 | .adc => 5 | .sbc => 6 | .rsc => 7
  | .tst => 8 | .teq => 9 | .cmp => 10 | .cmn => 11 | .orr => 12 | .mov => 13 | .bic => 14 | .mvn => 15

/-! ## Fields of a 32-bit word -/

/-- `instr[31:28]` (R181). -/
def condOf (w : Word) : Cond := Cond.ofBits (w.extractLsb' 28 4)

/-- The 4-bit register field whose lowest bit is bit `lo` (R104). -/
def regAt (w : Word) (lo : Nat) : Reg := w.extractLsb' lo 4

/-- `instr[6:5]` as a shift type (R117). -/
def shiftTypeOf (w : Word) : ShiftType := ShiftType.ofBits (w.extractLsb' 5 2)

/-- The field mask of MSR, bits 19 to 16 (R105). -/
def fieldMaskOf (w : Word) : FieldMask :=
  { f := w.getLsbD 19, s := w.getLsbD 18, x := w.getLsbD 17, c := w.getLsbD 16 }

/-- Fields of ARM.DP.imm (R104, R117). -/
def dpImmOf (w : Word) : DpImm :=
  { cond := condOf w, s := w.getLsbD 20, rn := regAt w 16, rd := regAt w 12,
    rot := w.extractLsb' 8 4, imm8 := w.extractLsb' 0 8 }

/-- Fields of ARM.DP.regimm (R104, R117). -/
def dpRegImmOf (w : Word) : DpRegImm :=
  { cond := condOf w, s := w.getLsbD 20, rn := regAt w 16, rd := regAt w 12,
    amount5 := w.extractLsb' 7 5, ty := shiftTypeOf w, rm := regAt w 0 }

/-- Fields of ARM.DP.regreg (R104, R117). -/
def dpRegRegOf (w : Word) : DpRegReg :=
  { cond := condOf w, s := w.getLsbD 20, rn := regAt w 16, rd := regAt w 12,
    rs := regAt w 8, ty := shiftTypeOf w, rm := regAt w 0 }

/-- Fields of ARM.MUL (R106). -/
def mulOf (w : Word) : MulForm :=
  { cond := condOf w, s := w.getLsbD 20, rd := regAt w 16, rn := regAt w 12, rs := regAt w 8, rm := regAt w 0 }

/-- Fields of ARM.MULL (R106). -/
def mulLongOf (w : Word) : MulLong :=
  { cond := condOf w, s := w.getLsbD 20, rdHi := regAt w 16, rdLo := regAt w 12, rs := regAt w 8, rm := regAt w 0 }

/-- Fields of ARM.SWP (R107). -/
def swpOf (w : Word) : SwpForm :=
  { cond := condOf w, rn := regAt w 16, rd := regAt w 12, rm := regAt w 0 }

/-- Fields of ARM.HDT with a register offset (R108). -/
def hdtRegOf (w : Word) : HdtReg :=
  { cond := condOf w, p := w.getLsbD 24, u := w.getLsbD 23, w := w.getLsbD 21, rn := regAt w 16, rd := regAt w 12,
    ignored := w.extractLsb' 8 4, rm := regAt w 0 }

/-- Fields of ARM.HDT with an immediate offset (R108). -/
def hdtImmOf (w : Word) : HdtImm :=
  { cond := condOf w, p := w.getLsbD 24, u := w.getLsbD 23, w := w.getLsbD 21, rn := regAt w 16, rd := regAt w 12,
    offHi := w.extractLsb' 8 4, offLo := w.extractLsb' 0 4 }

/-- Fields of ARM.SDT with an immediate offset (R109). -/
def sdtImmOf (w : Word) : SdtImm :=
  { cond := condOf w, u := w.getLsbD 23, w := w.getLsbD 21, rn := regAt w 16, rd := regAt w 12,
    offset12 := w.extractLsb' 0 12 }

/-- Fields of ARM.SDT with a shifted register offset (R109). -/
def sdtRegOf (w : Word) : SdtReg :=
  { cond := condOf w, u := w.getLsbD 23, w := w.getLsbD 21, rn := regAt w 16, rd := regAt w 12,
    amount5 := w.extractLsb' 7 5, ty := shiftTypeOf w, rm := regAt w 0 }

/-- Fields of ARM.BDT (R110). -/
def bdtOf (w : Word) : BdtForm :=
  { cond := condOf w, p := w.getLsbD 24, u := w.getLsbD 23, s := w.getLsbD 22, w := w.getLsbD 21,
    rn := regAt w 16, rlist := w.extractLsb' 0 16 }

/-- Fields of ARM.B (R111). -/
def branchOf (w : Word) : BranchForm := { cond := condOf w, imm24 := w.extractLsb' 0 24 }

/-- Fields of ARM.CDT (R112). -/
def cdtOf (w : Word) : CdtForm :=
  { cond := condOf w, p := w.getLsbD 24, u := w.getLsbD 23, n := w.getLsbD 22, w := w.getLsbD 21,
    rn := regAt w 16, crd := w.extractLsb' 12 4, cp := w.extractLsb' 8 4, offset8 := w.extractLsb' 0 8 }

/-- Fields of ARM.CDO (R112). -/
def cdoOf (w : Word) : CdoForm :=
  { cond := condOf w, opc1 := w.extractLsb' 20 4, crn := w.extractLsb' 16 4, crd := w.extractLsb' 12 4,
    cp := w.extractLsb' 8 4, opc2 := w.extractLsb' 5 3, crm := w.extractLsb' 0 4 }

/-- Fields of ARM.CRT (R112). -/
def crtOf (w : Word) : CrtForm :=
  { cond := condOf w, opc1 := w.extractLsb' 21 3, crn := w.extractLsb' 16 4, rd := regAt w 12,
    cp := w.extractLsb' 8 4, opc2 := w.extractLsb' 5 3, crm := w.extractLsb' 0 4 }

/-- The data-processing instruction of an operation, operand form: rotated immediate (R104). -/
def dpImmInstr (op : DpOp) (f : DpImm) : Instr :=
  match op with
  | .and => .andImm f | .eor => .eorImm f | .sub => .subImm f | .rsb => .rsbImm f
  | .add => .addImm f | .adc => .adcImm f | .sbc => .sbcImm f | .rsc => .rscImm f
  | .tst => .tstImm f | .teq => .teqImm f | .cmp => .cmpImm f | .cmn => .cmnImm f
  | .orr => .orrImm f | .mov => .movImm f | .bic => .bicImm f | .mvn => .mvnImm f

/-- The data-processing instruction of an operation, operand form: register shifted by an immediate (R104). -/
def dpRegImmInstr (op : DpOp) (f : DpRegImm) : Instr :=
  match op with
  | .and => .andRegImm f | .eor => .eorRegImm f | .sub => .subRegImm f | .rsb => .rsbRegImm f
  | .add => .addRegImm f | .adc => .adcRegImm f | .sbc => .sbcRegImm f | .rsc => .rscRegImm f
  | .tst => .tstRegImm f | .teq => .teqRegImm f | .cmp => .cmpRegImm f | .cmn => .cmnRegImm f
  | .orr => .orrRegImm f | .mov => .movRegImm f | .bic => .bicRegImm f | .mvn => .mvnRegImm f

/-- The data-processing instruction of an operation, operand form: register shifted by a register (R104). -/
def dpRegRegInstr (op : DpOp) (f : DpRegReg) : Instr :=
  match op with
  | .and => .andRegReg f | .eor => .eorRegReg f | .sub => .subRegReg f | .rsb => .rsbRegReg f
  | .add => .addRegReg f | .adc => .adcRegReg f | .sbc => .sbcRegReg f | .rsc => .rscRegReg f
  | .tst => .tstRegReg f | .teq => .teqRegReg f | .cmp => .cmpRegReg f | .cmn => .cmnRegReg f
  | .orr => .orrRegReg f | .mov => .movRegReg f | .bic => .bicRegReg f | .mvn => .mvnRegReg f

/-! ## The 32-bit decoder, R115 -/

/-- Step 2a of R115: the multiply, swap and halfword space. -/
def decodeExtension (w : Word) : Option Instr :=
  if w.extractLsb' 5 2 == 0b00#2 then
    if w.extractLsb' 22 6 == 0b000000#6 then
      if w.getLsbD 21 then some (.mla (mulOf w)) else some (.mul (mulOf w))
    else if w.extractLsb' 23 5 == 0b00001#5 then
      match w.getLsbD 22, w.getLsbD 21 with
      | false, false => some (.umull (mulLongOf w))
      | false, true  => some (.umlal (mulLongOf w))
      | true,  false => some (.smull (mulLongOf w))
      | true,  true  => some (.smlal (mulLongOf w))
    else if w &&& 0x0FB00FF0#32 == 0x01000090#32 then
      if w.getLsbD 22 then some (.swpb (swpOf w)) else some (.swp (swpOf w))
    else none
  else if w.getLsbD 20 then
    match w.getLsbD 6, w.getLsbD 5, w.getLsbD 22 with
    | false, _,     false => some (.ldrhReg (hdtRegOf w))
    | false, _,     true  => some (.ldrhImm (hdtImmOf w))
    | true,  false, false => some (.ldrsbReg (hdtRegOf w))
    | true,  false, true  => some (.ldrsbImm (hdtImmOf w))
    | true,  true,  false => some (.ldrshReg (hdtRegOf w))
    | true,  true,  true  => some (.ldrshImm (hdtImmOf w))
  else if w.getLsbD 6 then none
  else if w.getLsbD 22 then some (.strhImm (hdtImmOf w))
  else some (.strhReg (hdtRegOf w))

/-- Step 2b of R115: opcode 10xx with S = 0, the status-register space. -/
def decodePsr (w : Word) : Option Instr :=
  if w &&& 0x0FBF0FFF#32 == 0x010F0000#32 then
    some (.mrs { cond := condOf w, r := w.getLsbD 22, rd := regAt w 12 })
  else if w &&& 0x0FB0FFF0#32 == 0x0120F000#32 then
    some (.msrReg { cond := condOf w, r := w.getLsbD 22, mask := fieldMaskOf w, rm := regAt w 0 })
  else if w &&& 0x0FB0F000#32 == 0x0320F000#32 then
    some (.msrImm { cond := condOf w, r := w.getLsbD 22, mask := fieldMaskOf w,
                    rot := w.extractLsb' 8 4, imm8 := w.extractLsb' 0 8 })
  else none

/-- Step 2c of R115: data processing, the operand form by bits 25 and 4 (R104, R117). -/
def decodeDataProcessing (w : Word) : Instr :=
  let op := DpOp.ofBits (w.extractLsb' 21 4)
  if w.getLsbD 25 then dpImmInstr op (dpImmOf w)
  else if w.getLsbD 4 then dpRegRegInstr op (dpRegRegOf w)
  else dpRegImmInstr op (dpRegImmOf w)

/-- The word and byte transfers with an immediate offset: B, L, then P and W (R109, step 3 of R115). -/
def decodeSdtImm (w : Word) : Instr :=
  let f := sdtImmOf w
  match w.getLsbD 22, w.getLsbD 20, w.getLsbD 24, w.getLsbD 21 with
  | false, true,  true,  _     => .ldrImmPre f
  | false, true,  false, false => .ldrImmPost f
  | false, true,  false, true  => .ldrtImm f
  | false, false, true,  _     => .strImmPre f
  | false, false, false, false => .strImmPost f
  | false, false, false, true  => .strtImm f
  | true,  true,  true,  _     => .ldrbImmPre f
  | true,  true,  false, false => .ldrbImmPost f
  | true,  true,  false, true  => .ldrbtImm f
  | true,  false, true,  _     => .strbImmPre f
  | true,  false, false, false => .strbImmPost f
  | true,  false, false, true  => .strbtImm f

/-- The word and byte transfers with a register offset: B, L, then P and W (R109, step 3 of R115). -/
def decodeSdtReg (w : Word) : Instr :=
  let f := sdtRegOf w
  match w.getLsbD 22, w.getLsbD 20, w.getLsbD 24, w.getLsbD 21 with
  | false, true,  true,  _     => .ldrRegPre f
  | false, true,  false, false => .ldrRegPost f
  | false, true,  false, true  => .ldrtReg f
  | false, false, true,  _     => .strRegPre f
  | false, false, false, false => .strRegPost f
  | false, false, false, true  => .strtReg f
  | true,  true,  true,  _     => .ldrbRegPre f
  | true,  true,  false, false => .ldrbRegPost f
  | true,  true,  false, true  => .ldrbtReg f
  | true,  false, true,  _     => .strbRegPre f
  | true,  false, false, false => .strbRegPost f
  | true,  false, false, true  => .strbtReg f

/-- `DecodeARM` (R115), under `COND15` = `illegal` with every word of condition 15 undecodable (R183). -/
def decodeArm (w : Word) : Option Instr :=
  if condOf w == .nv && Config.cond15 == .illegal then none
  else if w &&& 0x0FFFFFF0#32 == 0x012FFF10#32 then some (.bx { cond := condOf w, rm := regAt w 0 })
  else if w.extractLsb' 26 2 == 0b00#2 then
    if !w.getLsbD 25 && w.getLsbD 7 && w.getLsbD 4 then decodeExtension w
    else if w.extractLsb' 23 2 == 0b10#2 && !w.getLsbD 20 then decodePsr w
    else some (decodeDataProcessing w)
  else if w.extractLsb' 26 2 == 0b01#2 then
    if !w.getLsbD 25 then some (decodeSdtImm w)
    else if w.getLsbD 4 then none
    else some (decodeSdtReg w)
  else if w.extractLsb' 25 3 == 0b100#3 then
    if w.getLsbD 20 then some (.ldm (bdtOf w)) else some (.stm (bdtOf w))
  else if w.extractLsb' 25 3 == 0b101#3 then
    if w.getLsbD 24 then some (.bl (branchOf w)) else some (.b (branchOf w))
  else if w.extractLsb' 25 3 == 0b110#3 then
    if w.getLsbD 20 then some (.ldc (cdtOf w)) else some (.stc (cdtOf w))
  else if w.extractLsb' 24 4 == 0b1111#4 then
    some (.swi { cond := condOf w, comment24 := w.extractLsb' 0 24 })
  else if !w.getLsbD 4 then some (.cdp (cdoOf w))
  else if w.getLsbD 20 then some (.mrc (crtOf w))
  else some (.mcr (crtOf w))

/-! ## Fields of a 16-bit word -/

/-- The 3-bit register field whose lowest bit is bit `lo`: a low register (R22). -/
def lowRegAt (h : Half) (lo : Nat) : Reg := 0#1 ++ h.extractLsb' lo 3

/-- Fields of format 1 (R120). -/
def tShiftOf (h : Half) : TShift :=
  { offset5 := h.extractLsb' 6 5, rs := lowRegAt h 3, rd := lowRegAt h 0 }

/-- Fields of format 3 (R122). -/
def tImm8Of (h : Half) : TImm8 := { rd := lowRegAt h 8, offset8 := h.extractLsb' 0 8 }

/-- Fields of format 4 (R123). -/
def tAluOf (h : Half) : TAlu := { rs := lowRegAt h 3, rd := lowRegAt h 0 }

/-- Fields of format 5: `Rs4` = `H2 : instr[5:3]`, `Rd4` = `H1 : instr[2:0]` (R124). -/
def tHighOf (h : Half) : THigh :=
  { rs := h.extractLsb' 6 1 ++ h.extractLsb' 3 3, rd := h.extractLsb' 7 1 ++ h.extractLsb' 0 3 }

/-- Fields of formats 6, 11 and 12 (R125, R130, R131). -/
def tRdWord8Of (h : Half) : TRdWord8 := { rd := lowRegAt h 8, word8 := h.extractLsb' 0 8 }

/-- Fields of formats 7 and 8 (R126, R127). -/
def tRegOffOf (h : Half) : TRegOff := { ro := lowRegAt h 6, rb := lowRegAt h 3, rd := lowRegAt h 0 }

/-- Fields of formats 9 and 10 (R128, R129). -/
def tImmOffOf (h : Half) : TImmOff :=
  { offset5 := h.extractLsb' 6 5, rb := lowRegAt h 3, rd := lowRegAt h 0 }

/-- Fields of format 14 (R133). -/
def tPushPopOf (h : Half) : TPushPop := { r := h.getLsbD 8, rlist := h.extractLsb' 0 8 }

/-- Fields of format 15 (R134). -/
def tBlockOf (h : Half) : TBlock := { rb := lowRegAt h 8, rlist := h.extractLsb' 0 8 }

/-! ## The 16-bit decoder, R139 -/

/-- Formats 1 and 2 (R120, R121): `instr[15:13]` = 000. -/
def decodeFormat1and2 (h : Half) : Instr :=
  match h.getLsbD 12, h.getLsbD 11 with
  | false, false => .tLslImm (tShiftOf h)
  | false, true  => .tLsrImm (tShiftOf h)
  | true,  false => .tAsrImm (tShiftOf h)
  | true,  true  =>
    match h.getLsbD 10, h.getLsbD 9 with
    | false, false => .tAddReg { rn := lowRegAt h 6, rs := lowRegAt h 3, rd := lowRegAt h 0 }
    | false, true  => .tSubReg { rn := lowRegAt h 6, rs := lowRegAt h 3, rd := lowRegAt h 0 }
    | true,  false => .tAddImm3 { offset3 := h.extractLsb' 6 3, rs := lowRegAt h 3, rd := lowRegAt h 0 }
    | true,  true  => .tSubImm3 { offset3 := h.extractLsb' 6 3, rs := lowRegAt h 3, rd := lowRegAt h 0 }

/-- Format 3 (R122). -/
def decodeFormat3 (h : Half) : Instr :=
  match h.getLsbD 12, h.getLsbD 11 with
  | false, false => .tMovImm8 (tImm8Of h)
  | false, true  => .tCmpImm8 (tImm8Of h)
  | true,  false => .tAddImm8 (tImm8Of h)
  | true,  true  => .tSubImm8 (tImm8Of h)

/-- Format 4 (R123), by `op` = `instr[9:6]`. -/
def decodeFormat4 (h : Half) : Instr :=
  let f := tAluOf h
  match (h.extractLsb' 6 4).toNat with
  | 0 => .tAnd f | 1 => .tEor f | 2 => .tLslReg f | 3 => .tLsrReg f | 4 => .tAsrReg f | 5 => .tAdc f
  | 6 => .tSbc f | 7 => .tRor f | 8 => .tTst f | 9 => .tNeg f | 10 => .tCmpReg f | 11 => .tCmn f
  | 12 => .tOrr f | 13 => .tMul f | 14 => .tBic f | _ => .tMvn f

/-- Format 5 (R124): BX needs `instr[7]` = 0 and `instr[2:0]` = 000. -/
def decodeFormat5 (h : Half) : Option Instr :=
  match h.getLsbD 9, h.getLsbD 8 with
  | false, false => some (.tAddHi (tHighOf h))
  | false, true  => some (.tCmpHi (tHighOf h))
  | true,  false => some (.tMovHi (tHighOf h))
  | true,  true  =>
    if !h.getLsbD 7 && h.extractLsb' 0 3 == 0b000#3 then
      some (.tBx { rs := h.extractLsb' 6 1 ++ h.extractLsb' 3 3 })
    else none

/-- Formats 7 and 8 (R126, R127). -/
def decodeFormat7and8 (h : Half) : Instr :=
  let f := tRegOffOf h
  match h.getLsbD 9, h.getLsbD 11, h.getLsbD 10 with
  | false, false, false => .tStrReg f
  | false, false, true  => .tStrbReg f
  | false, true,  false => .tLdrReg f
  | false, true,  true  => .tLdrbReg f
  | true,  false, false => .tStrhReg f
  | true,  false, true  => .tLdsb f
  | true,  true,  false => .tLdrhReg f
  | true,  true,  true  => .tLdsh f

/-- Format 9 (R128). -/
def decodeFormat9 (h : Half) : Instr :=
  match h.getLsbD 12, h.getLsbD 11 with
  | false, false => .tStrImm (tImmOffOf h)
  | false, true  => .tLdrImm (tImmOffOf h)
  | true,  false => .tStrbImm (tImmOffOf h)
  | true,  true  => .tLdrbImm (tImmOffOf h)

/-- Formats 13 and 14 (R132, R133): `instr[15:12]` = 1011. -/
def decodeFormat13and14 (h : Half) : Option Instr :=
  if h.extractLsb' 8 4 == 0b0000#4 then
    if h.getLsbD 7 then some (.tSubSpImm7 (h.extractLsb' 0 7)) else some (.tAddSpImm7 (h.extractLsb' 0 7))
  else if h.extractLsb' 9 2 == 0b10#2 then
    if h.getLsbD 11 then some (.tPop (tPushPopOf h)) else some (.tPush (tPushPopOf h))
  else none

/-- Formats 16 and 17 (R135, R136): `instr[15:12]` = 1101, by `cond` = `instr[11:8]`. -/
def decodeFormat16and17 (h : Half) : Option Instr :=
  let off := h.extractLsb' 0 8
  match (h.extractLsb' 8 4).toNat with
  | 0 => some (.tBeq off) | 1 => some (.tBne off) | 2 => some (.tBcs off) | 3 => some (.tBcc off)
  | 4 => some (.tBmi off) | 5 => some (.tBpl off) | 6 => some (.tBvs off) | 7 => some (.tBvc off)
  | 8 => some (.tBhi off) | 9 => some (.tBls off) | 10 => some (.tBge off) | 11 => some (.tBlt off)
  | 12 => some (.tBgt off) | 13 => some (.tBle off) | 14 => none | _ => some (.tSwi off)

/-- `DecodeThumb` (R139). -/
def decodeThumb (h : Half) : Option Instr :=
  if h.extractLsb' 13 3 == 0b000#3 then some (decodeFormat1and2 h)
  else if h.extractLsb' 13 3 == 0b001#3 then some (decodeFormat3 h)
  else if h.extractLsb' 10 6 == 0b010000#6 then some (decodeFormat4 h)
  else if h.extractLsb' 10 6 == 0b010001#6 then decodeFormat5 h
  else if h.extractLsb' 11 5 == 0b01001#5 then some (.tLdrPc (tRdWord8Of h))
  else if h.extractLsb' 12 4 == 0b0101#4 then some (decodeFormat7and8 h)
  else if h.extractLsb' 13 3 == 0b011#3 then some (decodeFormat9 h)
  else if h.extractLsb' 12 4 == 0b1000#4 then
    if h.getLsbD 11 then some (.tLdrhImm (tImmOffOf h)) else some (.tStrhImm (tImmOffOf h))
  else if h.extractLsb' 12 4 == 0b1001#4 then
    if h.getLsbD 11 then some (.tLdrSp (tRdWord8Of h)) else some (.tStrSp (tRdWord8Of h))
  else if h.extractLsb' 12 4 == 0b1010#4 then
    if h.getLsbD 11 then some (.tAddSp (tRdWord8Of h)) else some (.tAddPc (tRdWord8Of h))
  else if h.extractLsb' 12 4 == 0b1011#4 then decodeFormat13and14 h
  else if h.extractLsb' 12 4 == 0b1100#4 then
    if h.getLsbD 11 then some (.tLdmia (tBlockOf h)) else some (.tStmia (tBlockOf h))
  else if h.extractLsb' 12 4 == 0b1101#4 then decodeFormat16and17 h
  else if h.extractLsb' 11 5 == 0b11100#5 then some (.tB (h.extractLsb' 0 11))
  else if h.extractLsb' 11 5 == 0b11101#5 then none
  else if h.getLsbD 11 then some (.tBlLo (h.extractLsb' 0 11))
  else some (.tBlHi (h.extractLsb' 0 11))

/-! ## The encoder -/

/-- The words of an instruction: one 32-bit word or one 16-bit halfword (R100). -/
inductive Encoding where
  | arm (w : Word)
  | thumb (h : Half)
  deriving DecidableEq, Repr

/-- A one-bit field. -/
abbrev bit1 (b : Bool) : BitVec 1 := BitVec.ofBool b

/-- The 3-bit field of a low register (R22). -/
def low3 (r : Reg) : BitVec 3 := r.extractLsb' 0 3

/-- Format ARM.DP.imm (R104). -/
def encodeDpImm (op : DpOp) (f : DpImm) : Word :=
  f.cond.bits ++ 0b001#3 ++ op.bits ++ bit1 f.s ++ f.rn ++ f.rd ++ f.rot ++ f.imm8

/-- Format ARM.DP.regimm (R104). -/
def encodeDpRegImm (op : DpOp) (f : DpRegImm) : Word :=
  f.cond.bits ++ 0b000#3 ++ op.bits ++ bit1 f.s ++ f.rn ++ f.rd ++ f.amount5 ++ f.ty.bits ++ 0#1 ++ f.rm

/-- Format ARM.DP.regreg (R104). -/
def encodeDpRegReg (op : DpOp) (f : DpRegReg) : Word :=
  f.cond.bits ++ 0b000#3 ++ op.bits ++ bit1 f.s ++ f.rn ++ f.rd ++ f.rs ++ 0#1 ++ f.ty.bits ++ 1#1 ++ f.rm

/-- The 4-bit field mask of MSR (R105). -/
def FieldMask.bits (m : FieldMask) : BitVec 4 := bit1 m.f ++ bit1 m.s ++ bit1 m.x ++ bit1 m.c

/-- Format ARM.MRS (R105). -/
def encodeMrs (f : MrsForm) : Word :=
  f.cond.bits ++ 0b00010#5 ++ bit1 f.r ++ 0b00#2 ++ 0b1111#4 ++ f.rd ++ 0x000#12

/-- Format ARM.MSR.reg (R105). -/
def encodeMsrReg (f : MsrReg) : Word :=
  f.cond.bits ++ 0b00010#5 ++ bit1 f.r ++ 0b10#2 ++ f.mask.bits ++ 0b1111#4 ++ 0x00#8 ++ f.rm

/-- Format ARM.MSR.imm (R105). -/
def encodeMsrImm (f : MsrImm) : Word :=
  f.cond.bits ++ 0b00110#5 ++ bit1 f.r ++ 0b10#2 ++ f.mask.bits ++ 0b1111#4 ++ f.rot ++ f.imm8

/-- Format ARM.MUL (R106); `a` is 1 for MLA. -/
def encodeMul (a : Bool) (f : MulForm) : Word :=
  f.cond.bits ++ 0b000000#6 ++ bit1 a ++ bit1 f.s ++ f.rd ++ f.rn ++ f.rs ++ 0b1001#4 ++ f.rm

/-- Format ARM.MULL (R106); `u` is 1 for the signed forms, `a` for the accumulating ones. -/
def encodeMulLong (u a : Bool) (f : MulLong) : Word :=
  f.cond.bits ++ 0b00001#5 ++ bit1 u ++ bit1 a ++ bit1 f.s ++ f.rdHi ++ f.rdLo ++ f.rs ++ 0b1001#4 ++ f.rm

/-- Format ARM.SWP (R107); `b` is 1 for SWPB. -/
def encodeSwp (b : Bool) (f : SwpForm) : Word :=
  f.cond.bits ++ 0b00010#5 ++ bit1 b ++ 0b00#2 ++ f.rn ++ f.rd ++ 0x09#8 ++ f.rm

/-- Format ARM.BX (R107). -/
def encodeBx (f : BxForm) : Word := f.cond.bits ++ 0x12FFF1#24 ++ f.rm

/-- Format ARM.HDT with a register offset (R108); `l` is bit 20, `sh` is bits 6:5. -/
def encodeHdtReg (l : Bool) (sh : BitVec 2) (f : HdtReg) : Word :=
  f.cond.bits ++ 0b000#3 ++ bit1 f.p ++ bit1 f.u ++ 0#1 ++ bit1 f.w ++ bit1 l ++ f.rn ++ f.rd ++ f.ignored
    ++ 1#1 ++ sh ++ 1#1 ++ f.rm

/-- Format ARM.HDT with an immediate offset (R108). -/
def encodeHdtImm (l : Bool) (sh : BitVec 2) (f : HdtImm) : Word :=
  f.cond.bits ++ 0b000#3 ++ bit1 f.p ++ bit1 f.u ++ 1#1 ++ bit1 f.w ++ bit1 l ++ f.rn ++ f.rd ++ f.offHi
    ++ 1#1 ++ sh ++ 1#1 ++ f.offLo

/-- Format ARM.SDT with an immediate offset (R109); `p`, `b`, `l` are bits 24, 22, 20. -/
def encodeSdtImm (p b l : Bool) (f : SdtImm) : Word :=
  f.cond.bits ++ 0b010#3 ++ bit1 p ++ bit1 f.u ++ bit1 b ++ bit1 f.w ++ bit1 l ++ f.rn ++ f.rd ++ f.offset12

/-- Format ARM.SDT with a register offset (R109). -/
def encodeSdtReg (p b l : Bool) (f : SdtReg) : Word :=
  f.cond.bits ++ 0b011#3 ++ bit1 p ++ bit1 f.u ++ bit1 b ++ bit1 f.w ++ bit1 l ++ f.rn ++ f.rd
    ++ f.amount5 ++ f.ty.bits ++ 0#1 ++ f.rm

/-- Format ARM.BDT (R110); `l` is 1 for LDM. -/
def encodeBdt (l : Bool) (f : BdtForm) : Word :=
  f.cond.bits ++ 0b100#3 ++ bit1 f.p ++ bit1 f.u ++ bit1 f.s ++ bit1 f.w ++ bit1 l ++ f.rn ++ f.rlist

/-- Format ARM.B (R111); `l` is 1 for BL. -/
def encodeBranch (l : Bool) (f : BranchForm) : Word := f.cond.bits ++ 0b101#3 ++ bit1 l ++ f.imm24

/-- Format ARM.CDT (R112); `l` is 1 for LDC. -/
def encodeCdt (l : Bool) (f : CdtForm) : Word :=
  f.cond.bits ++ 0b110#3 ++ bit1 f.p ++ bit1 f.u ++ bit1 f.n ++ bit1 f.w ++ bit1 l ++ f.rn ++ f.crd ++ f.cp
    ++ f.offset8

/-- Format ARM.CDO (R112). -/
def encodeCdo (f : CdoForm) : Word :=
  f.cond.bits ++ 0b1110#4 ++ f.opc1 ++ f.crn ++ f.crd ++ f.cp ++ f.opc2 ++ 0#1 ++ f.crm

/-- Format ARM.CRT (R112); `l` is 1 for MRC. -/
def encodeCrt (l : Bool) (f : CrtForm) : Word :=
  f.cond.bits ++ 0b1110#4 ++ f.opc1 ++ bit1 l ++ f.crn ++ f.rd ++ f.cp ++ f.opc2 ++ 1#1 ++ f.crm

/-- Format ARM.SWI (R113). -/
def encodeSwi (f : SwiForm) : Word := f.cond.bits ++ 0b1111#4 ++ f.comment24

/-- Format 1 (R120). -/
def encodeTShift (op : BitVec 2) (f : TShift) : Half := 0b000#3 ++ op ++ f.offset5 ++ low3 f.rs ++ low3 f.rd

/-- Format 2 with a register (R121); `sub` is bit 9. -/
def encodeTAddSubReg (sub : Bool) (f : TAddSubReg) : Half :=
  0b000110#6 ++ bit1 sub ++ low3 f.rn ++ low3 f.rs ++ low3 f.rd

/-- Format 2 with an immediate (R121). -/
def encodeTAddSubImm (sub : Bool) (f : TAddSubImm) : Half :=
  0b000111#6 ++ bit1 sub ++ f.offset3 ++ low3 f.rs ++ low3 f.rd

/-- Format 3 (R122). -/
def encodeTImm8 (op : BitVec 2) (f : TImm8) : Half := 0b001#3 ++ op ++ low3 f.rd ++ f.offset8

/-- Format 4 (R123). -/
def encodeTAlu (op : BitVec 4) (f : TAlu) : Half := 0b010000#6 ++ op ++ low3 f.rs ++ low3 f.rd

/-- Format 5 other than BX (R124): the register numbers are split into `H1`, `H2` and their low three bits. -/
def encodeTHigh (op : BitVec 2) (f : THigh) : Half :=
  0b010001#6 ++ op ++ f.rd.extractLsb' 3 1 ++ f.rs.extractLsb' 3 1 ++ low3 f.rs ++ low3 f.rd

/-- Format 5, BX (R124). -/
def encodeTBx (f : TBxForm) : Half := 0b010001110#9 ++ f.rs.extractLsb' 3 1 ++ low3 f.rs ++ 0b000#3

/-- Formats 6, 11 and 12 (R125, R130, R131): a 5-bit opcode, a register, an 8-bit word offset. -/
def encodeTRdWord8 (op : BitVec 5) (f : TRdWord8) : Half := op ++ low3 f.rd ++ f.word8

/-- Formats 7 and 8 (R126, R127): a 7-bit opcode and three registers. -/
def encodeTRegOff (op : BitVec 7) (f : TRegOff) : Half := op ++ low3 f.ro ++ low3 f.rb ++ low3 f.rd

/-- Formats 9 and 10 (R128, R129): a 5-bit opcode, a 5-bit offset, two registers. -/
def encodeTImmOff (op : BitVec 5) (f : TImmOff) : Half := op ++ f.offset5 ++ low3 f.rb ++ low3 f.rd

/-- Format 14 (R133); `l` is 1 for POP. -/
def encodeTPushPop (l : Bool) (f : TPushPop) : Half := 0b1011#4 ++ bit1 l ++ 0b10#2 ++ bit1 f.r ++ f.rlist

/-- Format 15 (R134); `l` is 1 for LDMIA. -/
def encodeTBlock (l : Bool) (f : TBlock) : Half := 0b1100#4 ++ bit1 l ++ low3 f.rb ++ f.rlist

/-- Format 16 (R135). -/
def encodeTBranch (cond : Cond) (soffset8 : BitVec 8) : Half := 0b1101#4 ++ cond.bits ++ soffset8

/-- The encoding of an instruction, from the format tables of spec/30_encoding.md. -/
def encode : Instr → Encoding
  | .andImm f => .arm (encodeDpImm .and f)
  | .andRegImm f => .arm (encodeDpRegImm .and f)
  | .andRegReg f => .arm (encodeDpRegReg .and f)
  | .eorImm f => .arm (encodeDpImm .eor f)
  | .eorRegImm f => .arm (encodeDpRegImm .eor f)
  | .eorRegReg f => .arm (encodeDpRegReg .eor f)
  | .subImm f => .arm (encodeDpImm .sub f)
  | .subRegImm f => .arm (encodeDpRegImm .sub f)
  | .subRegReg f => .arm (encodeDpRegReg .sub f)
  | .rsbImm f => .arm (encodeDpImm .rsb f)
  | .rsbRegImm f => .arm (encodeDpRegImm .rsb f)
  | .rsbRegReg f => .arm (encodeDpRegReg .rsb f)
  | .addImm f => .arm (encodeDpImm .add f)
  | .addRegImm f => .arm (encodeDpRegImm .add f)
  | .addRegReg f => .arm (encodeDpRegReg .add f)
  | .adcImm f => .arm (encodeDpImm .adc f)
  | .adcRegImm f => .arm (encodeDpRegImm .adc f)
  | .adcRegReg f => .arm (encodeDpRegReg .adc f)
  | .sbcImm f => .arm (encodeDpImm .sbc f)
  | .sbcRegImm f => .arm (encodeDpRegImm .sbc f)
  | .sbcRegReg f => .arm (encodeDpRegReg .sbc f)
  | .rscImm f => .arm (encodeDpImm .rsc f)
  | .rscRegImm f => .arm (encodeDpRegImm .rsc f)
  | .rscRegReg f => .arm (encodeDpRegReg .rsc f)
  | .tstImm f => .arm (encodeDpImm .tst f)
  | .tstRegImm f => .arm (encodeDpRegImm .tst f)
  | .tstRegReg f => .arm (encodeDpRegReg .tst f)
  | .teqImm f => .arm (encodeDpImm .teq f)
  | .teqRegImm f => .arm (encodeDpRegImm .teq f)
  | .teqRegReg f => .arm (encodeDpRegReg .teq f)
  | .cmpImm f => .arm (encodeDpImm .cmp f)
  | .cmpRegImm f => .arm (encodeDpRegImm .cmp f)
  | .cmpRegReg f => .arm (encodeDpRegReg .cmp f)
  | .cmnImm f => .arm (encodeDpImm .cmn f)
  | .cmnRegImm f => .arm (encodeDpRegImm .cmn f)
  | .cmnRegReg f => .arm (encodeDpRegReg .cmn f)
  | .orrImm f => .arm (encodeDpImm .orr f)
  | .orrRegImm f => .arm (encodeDpRegImm .orr f)
  | .orrRegReg f => .arm (encodeDpRegReg .orr f)
  | .movImm f => .arm (encodeDpImm .mov f)
  | .movRegImm f => .arm (encodeDpRegImm .mov f)
  | .movRegReg f => .arm (encodeDpRegReg .mov f)
  | .bicImm f => .arm (encodeDpImm .bic f)
  | .bicRegImm f => .arm (encodeDpRegImm .bic f)
  | .bicRegReg f => .arm (encodeDpRegReg .bic f)
  | .mvnImm f => .arm (encodeDpImm .mvn f)
  | .mvnRegImm f => .arm (encodeDpRegImm .mvn f)
  | .mvnRegReg f => .arm (encodeDpRegReg .mvn f)
  | .mrs f => .arm (encodeMrs f)
  | .msrReg f => .arm (encodeMsrReg f)
  | .msrImm f => .arm (encodeMsrImm f)
  | .mul f => .arm (encodeMul false f)
  | .mla f => .arm (encodeMul true f)
  | .umull f => .arm (encodeMulLong false false f)
  | .umlal f => .arm (encodeMulLong false true f)
  | .smull f => .arm (encodeMulLong true false f)
  | .smlal f => .arm (encodeMulLong true true f)
  | .swp f => .arm (encodeSwp false f)
  | .swpb f => .arm (encodeSwp true f)
  | .bx f => .arm (encodeBx f)
  | .strhReg f => .arm (encodeHdtReg false 0b01#2 f)
  | .strhImm f => .arm (encodeHdtImm false 0b01#2 f)
  | .ldrhReg f => .arm (encodeHdtReg true 0b01#2 f)
  | .ldrhImm f => .arm (encodeHdtImm true 0b01#2 f)
  | .ldrsbReg f => .arm (encodeHdtReg true 0b10#2 f)
  | .ldrsbImm f => .arm (encodeHdtImm true 0b10#2 f)
  | .ldrshReg f => .arm (encodeHdtReg true 0b11#2 f)
  | .ldrshImm f => .arm (encodeHdtImm true 0b11#2 f)
  | .ldrImmPre f => .arm (encodeSdtImm true false true f)
  | .ldrImmPost f => .arm (encodeSdtImm false false true f)
  | .ldrtImm f => .arm (encodeSdtImm false false true f)
  | .ldrRegPre f => .arm (encodeSdtReg true false true f)
  | .ldrRegPost f => .arm (encodeSdtReg false false true f)
  | .ldrtReg f => .arm (encodeSdtReg false false true f)
  | .strImmPre f => .arm (encodeSdtImm true false false f)
  | .strImmPost f => .arm (encodeSdtImm false false false f)
  | .strtImm f => .arm (encodeSdtImm false false false f)
  | .strRegPre f => .arm (encodeSdtReg true false false f)
  | .strRegPost f => .arm (encodeSdtReg false false false f)
  | .strtReg f => .arm (encodeSdtReg false false false f)
  | .ldrbImmPre f => .arm (encodeSdtImm true true true f)
  | .ldrbImmPost f => .arm (encodeSdtImm false true true f)
  | .ldrbtImm f => .arm (encodeSdtImm false true true f)
  | .ldrbRegPre f => .arm (encodeSdtReg true true true f)
  | .ldrbRegPost f => .arm (encodeSdtReg false true true f)
  | .ldrbtReg f => .arm (encodeSdtReg false true true f)
  | .strbImmPre f => .arm (encodeSdtImm true true false f)
  | .strbImmPost f => .arm (encodeSdtImm false true false f)
  | .strbtImm f => .arm (encodeSdtImm false true false f)
  | .strbRegPre f => .arm (encodeSdtReg true true false f)
  | .strbRegPost f => .arm (encodeSdtReg false true false f)
  | .strbtReg f => .arm (encodeSdtReg false true false f)
  | .ldm f => .arm (encodeBdt true f)
  | .stm f => .arm (encodeBdt false f)
  | .b f => .arm (encodeBranch false f)
  | .bl f => .arm (encodeBranch true f)
  | .stc f => .arm (encodeCdt false f)
  | .ldc f => .arm (encodeCdt true f)
  | .cdp f => .arm (encodeCdo f)
  | .mcr f => .arm (encodeCrt false f)
  | .mrc f => .arm (encodeCrt true f)
  | .swi f => .arm (encodeSwi f)
  | .tLslImm f => .thumb (encodeTShift 0b00#2 f)
  | .tLsrImm f => .thumb (encodeTShift 0b01#2 f)
  | .tAsrImm f => .thumb (encodeTShift 0b10#2 f)
  | .tAddReg f => .thumb (encodeTAddSubReg false f)
  | .tSubReg f => .thumb (encodeTAddSubReg true f)
  | .tAddImm3 f => .thumb (encodeTAddSubImm false f)
  | .tSubImm3 f => .thumb (encodeTAddSubImm true f)
  | .tMovImm8 f => .thumb (encodeTImm8 0b00#2 f)
  | .tCmpImm8 f => .thumb (encodeTImm8 0b01#2 f)
  | .tAddImm8 f => .thumb (encodeTImm8 0b10#2 f)
  | .tSubImm8 f => .thumb (encodeTImm8 0b11#2 f)
  | .tAnd f => .thumb (encodeTAlu 0b0000#4 f)
  | .tEor f => .thumb (encodeTAlu 0b0001#4 f)
  | .tLslReg f => .thumb (encodeTAlu 0b0010#4 f)
  | .tLsrReg f => .thumb (encodeTAlu 0b0011#4 f)
  | .tAsrReg f => .thumb (encodeTAlu 0b0100#4 f)
  | .tAdc f => .thumb (encodeTAlu 0b0101#4 f)
  | .tSbc f => .thumb (encodeTAlu 0b0110#4 f)
  | .tRor f => .thumb (encodeTAlu 0b0111#4 f)
  | .tTst f => .thumb (encodeTAlu 0b1000#4 f)
  | .tNeg f => .thumb (encodeTAlu 0b1001#4 f)
  | .tCmpReg f => .thumb (encodeTAlu 0b1010#4 f)
  | .tCmn f => .thumb (encodeTAlu 0b1011#4 f)
  | .tOrr f => .thumb (encodeTAlu 0b1100#4 f)
  | .tMul f => .thumb (encodeTAlu 0b1101#4 f)
  | .tBic f => .thumb (encodeTAlu 0b1110#4 f)
  | .tMvn f => .thumb (encodeTAlu 0b1111#4 f)
  | .tAddHi f => .thumb (encodeTHigh 0b00#2 f)
  | .tCmpHi f => .thumb (encodeTHigh 0b01#2 f)
  | .tMovHi f => .thumb (encodeTHigh 0b10#2 f)
  | .tBx f => .thumb (encodeTBx f)
  | .tLdrPc f => .thumb (encodeTRdWord8 0b01001#5 f)
  | .tStrReg f => .thumb (encodeTRegOff 0b0101000#7 f)
  | .tStrbReg f => .thumb (encodeTRegOff 0b0101010#7 f)
  | .tLdrReg f => .thumb (encodeTRegOff 0b0101100#7 f)
  | .tLdrbReg f => .thumb (encodeTRegOff 0b0101110#7 f)
  | .tStrhReg f => .thumb (encodeTRegOff 0b0101001#7 f)
  | .tLdsb f => .thumb (encodeTRegOff 0b0101011#7 f)
  | .tLdrhReg f => .thumb (encodeTRegOff 0b0101101#7 f)
  | .tLdsh f => .thumb (encodeTRegOff 0b0101111#7 f)
  | .tStrImm f => .thumb (encodeTImmOff 0b01100#5 f)
  | .tLdrImm f => .thumb (encodeTImmOff 0b01101#5 f)
  | .tStrbImm f => .thumb (encodeTImmOff 0b01110#5 f)
  | .tLdrbImm f => .thumb (encodeTImmOff 0b01111#5 f)
  | .tStrhImm f => .thumb (encodeTImmOff 0b10000#5 f)
  | .tLdrhImm f => .thumb (encodeTImmOff 0b10001#5 f)
  | .tStrSp f => .thumb (encodeTRdWord8 0b10010#5 f)
  | .tLdrSp f => .thumb (encodeTRdWord8 0b10011#5 f)
  | .tAddPc f => .thumb (encodeTRdWord8 0b10100#5 f)
  | .tAddSp f => .thumb (encodeTRdWord8 0b10101#5 f)
  | .tAddSpImm7 sword7 => .thumb (0b101100000#9 ++ sword7)
  | .tSubSpImm7 sword7 => .thumb (0b101100001#9 ++ sword7)
  | .tPush f => .thumb (encodeTPushPop false f)
  | .tPop f => .thumb (encodeTPushPop true f)
  | .tStmia f => .thumb (encodeTBlock false f)
  | .tLdmia f => .thumb (encodeTBlock true f)
  | .tBeq soffset8 => .thumb (encodeTBranch .eq soffset8)
  | .tBne soffset8 => .thumb (encodeTBranch .ne soffset8)
  | .tBcs soffset8 => .thumb (encodeTBranch .cs soffset8)
  | .tBcc soffset8 => .thumb (encodeTBranch .cc soffset8)
  | .tBmi soffset8 => .thumb (encodeTBranch .mi soffset8)
  | .tBpl soffset8 => .thumb (encodeTBranch .pl soffset8)
  | .tBvs soffset8 => .thumb (encodeTBranch .vs soffset8)
  | .tBvc soffset8 => .thumb (encodeTBranch .vc soffset8)
  | .tBhi soffset8 => .thumb (encodeTBranch .hi soffset8)
  | .tBls soffset8 => .thumb (encodeTBranch .ls soffset8)
  | .tBge soffset8 => .thumb (encodeTBranch .ge soffset8)
  | .tBlt soffset8 => .thumb (encodeTBranch .lt soffset8)
  | .tBgt soffset8 => .thumb (encodeTBranch .gt soffset8)
  | .tBle soffset8 => .thumb (encodeTBranch .le soffset8)
  | .tSwi value8 => .thumb (0b11011111#8 ++ value8)
  | .tB offset11 => .thumb (0b11100#5 ++ offset11)
  | .tBlHi offset11 => .thumb (0b11110#5 ++ offset11)
  | .tBlLo offset11 => .thumb (0b11111#5 ++ offset11)

/-! ## Decoding words and bytes -/

/-- The instruction of an encoded word, `none` where the word is undecodable. -/
def decode : Encoding → Option Instr
  | .arm w => decodeArm w
  | .thumb h => decodeThumb h

/-- Why a byte string is no instruction. -/
inductive DecodeError where
  /-- Fewer bytes than the instruction width of the execution state (R28). -/
  | truncated (state : ExecState) (available : Nat)
  /-- The word matches no row of the opcode table (R102, R116, R139). -/
  | illegal (state : ExecState) (word : Word)
  deriving DecidableEq, Repr

/-- Decoding the first instruction of a byte string, little-endian (R67), with the bytes that remain. -/
def decodeBytes : ExecState → List Byte → Except DecodeError (Instr × List Byte)
  | .arm, b0 :: b1 :: b2 :: b3 :: rest =>
    match decodeArm (b3 ++ b2 ++ b1 ++ b0) with
    | some i => .ok (i, rest)
    | none => .error (.illegal .arm (b3 ++ b2 ++ b1 ++ b0))
  | .thumb, b0 :: b1 :: rest =>
    match decodeThumb (b1 ++ b0) with
    | some i => .ok (i, rest)
    | none => .error (.illegal .thumb (0x0000#16 ++ (b1 ++ b0)))
  | st, bytes => .error (.truncated st bytes.length)

/-- The bytes of an encoding, lowest address first (R67). -/
def Encoding.bytes : Encoding → List Byte
  | .arm w => [w.extractLsb' 0 8, w.extractLsb' 8 8, w.extractLsb' 16 8, w.extractLsb' 24 8]
  | .thumb h => [h.extractLsb' 0 8, h.extractLsb' 8 8]

/-- The execution state an encoding belongs to (R27). -/
def Encoding.state : Encoding → ExecState
  | .arm _ => .arm
  | .thumb _ => .thumb

/-- The instruction word as `log` and the faults carry it: a halfword is zero-extended (R450, R455; log 22). -/
def Encoding.word : Encoding → Word
  | .arm w => w
  | .thumb h => 0x0000#16 ++ h

/-- An instruction whose bits are `w`, in `nbits` bits as spec/opcode_table.json numbers them: the table has rows of 32
and of 16 bits only (R149). -/
def decodeTableWord (nbits w : Nat) : Option Instr :=
  if nbits = 32 then decodeArm (BitVec.ofNat 32 w)
  else if nbits = 16 then decodeThumb (BitVec.ofNat 16 w)
  else none

/-! ## The write-PC flag, R140 -/

/-- The program counter's number. -/
abbrev Reg.pc : Reg := 15#4

/-- The base is written back: P = 0, or P = 1 with W = 1 (R140). -/
def basePcWritten (p w : Bool) (rn : Reg) : Bool := (!p || w) && rn == Reg.pc

/-- `writesPC` (R140): true exactly when some execution of the instruction can assign `x[15]`. -/
def Instr.writesPC : Instr → Bool
  | .andImm f | .eorImm f | .subImm f | .rsbImm f | .addImm f | .adcImm f | .sbcImm f | .rscImm f | .orrImm f
  | .movImm f | .bicImm f | .mvnImm f => f.rd == Reg.pc
  | .andRegImm f | .eorRegImm f | .subRegImm f | .rsbRegImm f | .addRegImm f | .adcRegImm f | .sbcRegImm f
  | .rscRegImm f | .orrRegImm f | .movRegImm f | .bicRegImm f | .mvnRegImm f => f.rd == Reg.pc
  | .andRegReg f | .eorRegReg f | .subRegReg f | .rsbRegReg f | .addRegReg f | .adcRegReg f | .sbcRegReg f
  | .rscRegReg f | .orrRegReg f | .movRegReg f | .bicRegReg f | .mvnRegReg f => f.rd == Reg.pc
  | .tstImm _ | .tstRegImm _ | .tstRegReg _ | .teqImm _ | .teqRegImm _ | .teqRegReg _ | .cmpImm _
  | .cmpRegImm _ | .cmpRegReg _ | .cmnImm _ | .cmnRegImm _ | .cmnRegReg _ | .msrReg _ | .msrImm _ | .stc _
  | .ldc _ | .cdp _ | .mcr _ | .mrc _ | .tLslImm _ | .tLsrImm _ | .tAsrImm _ | .tAddReg _ | .tSubReg _
  | .tAddImm3 _ | .tSubImm3 _ | .tMovImm8 _ | .tCmpImm8 _ | .tAddImm8 _ | .tSubImm8 _ | .tAnd _ | .tEor _
  | .tLslReg _ | .tLsrReg _ | .tAsrReg _ | .tAdc _ | .tSbc _ | .tRor _ | .tTst _ | .tNeg _ | .tCmpReg _
  | .tCmn _ | .tOrr _ | .tMul _ | .tBic _ | .tMvn _ | .tCmpHi _ | .tLdrPc _ | .tStrReg _ | .tStrbReg _
  | .tLdrReg _ | .tLdrbReg _ | .tStrhReg _ | .tLdsb _ | .tLdrhReg _ | .tLdsh _ | .tStrImm _ | .tLdrImm _
  | .tStrbImm _ | .tLdrbImm _ | .tStrhImm _ | .tLdrhImm _ | .tStrSp _ | .tLdrSp _ | .tAddPc _ | .tAddSp _
  | .tAddSpImm7 _ | .tSubSpImm7 _ | .tPush _ | .tStmia _ | .tLdmia _ | .tBlHi _ => false
  | .mrs f => f.rd == Reg.pc
  | .mul f | .mla f => f.rd == Reg.pc
  | .umull f | .umlal f | .smull f | .smlal f => f.rdHi == Reg.pc || f.rdLo == Reg.pc
  | .swp f | .swpb f => f.rd == Reg.pc
  | .bx _ | .b _ | .bl _ | .swi _ | .tBx _ | .tBeq _ | .tBne _ | .tBcs _ | .tBcc _ | .tBmi _ | .tBpl _
  | .tBvs _ | .tBvc _ | .tBhi _ | .tBls _ | .tBge _ | .tBlt _ | .tBgt _ | .tBle _ | .tSwi _ | .tB _ | .tBlLo _ => true
  | .strhReg f => basePcWritten f.p f.w f.rn
  | .strhImm f => basePcWritten f.p f.w f.rn
  | .ldrhReg f | .ldrsbReg f | .ldrshReg f => f.rd == Reg.pc || basePcWritten f.p f.w f.rn
  | .ldrhImm f | .ldrsbImm f | .ldrshImm f => f.rd == Reg.pc || basePcWritten f.p f.w f.rn
  | .ldrImmPre f | .ldrbImmPre f => f.rd == Reg.pc || basePcWritten true f.w f.rn
  | .ldrImmPost f | .ldrtImm f | .ldrbImmPost f | .ldrbtImm f => f.rd == Reg.pc || basePcWritten false f.w f.rn
  | .ldrRegPre f | .ldrbRegPre f => f.rd == Reg.pc || basePcWritten true f.w f.rn
  | .ldrRegPost f | .ldrtReg f | .ldrbRegPost f | .ldrbtReg f => f.rd == Reg.pc || basePcWritten false f.w f.rn
  | .strImmPre f | .strbImmPre f => basePcWritten true f.w f.rn
  | .strImmPost f | .strtImm f | .strbImmPost f | .strbtImm f => basePcWritten false f.w f.rn
  | .strRegPre f | .strbRegPre f => basePcWritten true f.w f.rn
  | .strRegPost f | .strtReg f | .strbRegPost f | .strbtReg f => basePcWritten false f.w f.rn
  | .ldm f => f.rlist.getLsbD 15 || (f.w && f.rn == Reg.pc)
  | .stm f => (f.w && f.rn == Reg.pc)
  | .tAddHi f | .tMovHi f => f.rd == Reg.pc
  | .tPop f => f.r

/-! ## Decoded operations, R101 -/

/-- `Decode(word, s)` (R101): total; an undecodable pattern gives `Illegal`, marked as PC-writing (R102). In Thumb state
the low halfword of `word` is decoded. -/
def decodeOp (word : Word) : ExecState → DecodedOp
  | .arm =>
    match decodeArm word with
    | some i => { kind := .instr i, state := .arm, writesPC := i.writesPC }
    | none => { kind := .illegal word, state := .arm, writesPC := true }
  | .thumb =>
    match decodeThumb (word.extractLsb' 0 16) with
    | some i => { kind := .instr i, state := .thumb, writesPC := i.writesPC }
    | none => { kind := .illegal (0x0000#16 ++ word.extractLsb' 0 16), state := .thumb, writesPC := true }

/-! ## The opcode table, R149 -/

/-- A row of spec/opcode_table.json: a word `w` of `width` bits matches it when `(w AND mask) = pattern` (R149). -/
structure TableRow where
  id      : String
  width   : Nat
  mask    : Nat
  pattern : Nat
  deriving DecidableEq, Repr

/-- `(w AND mask) == match` of R149, for a 32-bit word or a 16-bit halfword. -/
def TableRow.matches (r : TableRow) : Encoding → Bool
  | .arm w => r.width == 32 && w &&& BitVec.ofNat 32 r.mask == BitVec.ofNat 32 r.pattern
  | .thumb h => r.width == 16 && h &&& BitVec.ofNat 16 r.mask == BitVec.ofNat 16 r.pattern

/-- The row of an instruction, with the mask and the match value the table gives it. -/
def Instr.tableRow : Instr → TableRow
  | .andImm _ => ⟨"AND.imm", 32, 0x0FE00000, 0x02000000⟩
  | .andRegImm _ => ⟨"AND.regimm", 32, 0x0FE00010, 0x00000000⟩
  | .andRegReg _ => ⟨"AND.regreg", 32, 0x0FE00090, 0x00000010⟩
  | .eorImm _ => ⟨"EOR.imm", 32, 0x0FE00000, 0x02200000⟩
  | .eorRegImm _ => ⟨"EOR.regimm", 32, 0x0FE00010, 0x00200000⟩
  | .eorRegReg _ => ⟨"EOR.regreg", 32, 0x0FE00090, 0x00200010⟩
  | .subImm _ => ⟨"SUB.imm", 32, 0x0FE00000, 0x02400000⟩
  | .subRegImm _ => ⟨"SUB.regimm", 32, 0x0FE00010, 0x00400000⟩
  | .subRegReg _ => ⟨"SUB.regreg", 32, 0x0FE00090, 0x00400010⟩
  | .rsbImm _ => ⟨"RSB.imm", 32, 0x0FE00000, 0x02600000⟩
  | .rsbRegImm _ => ⟨"RSB.regimm", 32, 0x0FE00010, 0x00600000⟩
  | .rsbRegReg _ => ⟨"RSB.regreg", 32, 0x0FE00090, 0x00600010⟩
  | .addImm _ => ⟨"ADD.imm", 32, 0x0FE00000, 0x02800000⟩
  | .addRegImm _ => ⟨"ADD.regimm", 32, 0x0FE00010, 0x00800000⟩
  | .addRegReg _ => ⟨"ADD.regreg", 32, 0x0FE00090, 0x00800010⟩
  | .adcImm _ => ⟨"ADC.imm", 32, 0x0FE00000, 0x02A00000⟩
  | .adcRegImm _ => ⟨"ADC.regimm", 32, 0x0FE00010, 0x00A00000⟩
  | .adcRegReg _ => ⟨"ADC.regreg", 32, 0x0FE00090, 0x00A00010⟩
  | .sbcImm _ => ⟨"SBC.imm", 32, 0x0FE00000, 0x02C00000⟩
  | .sbcRegImm _ => ⟨"SBC.regimm", 32, 0x0FE00010, 0x00C00000⟩
  | .sbcRegReg _ => ⟨"SBC.regreg", 32, 0x0FE00090, 0x00C00010⟩
  | .rscImm _ => ⟨"RSC.imm", 32, 0x0FE00000, 0x02E00000⟩
  | .rscRegImm _ => ⟨"RSC.regimm", 32, 0x0FE00010, 0x00E00000⟩
  | .rscRegReg _ => ⟨"RSC.regreg", 32, 0x0FE00090, 0x00E00010⟩
  | .tstImm _ => ⟨"TST.imm", 32, 0x0FF00000, 0x03100000⟩
  | .tstRegImm _ => ⟨"TST.regimm", 32, 0x0FF00010, 0x01100000⟩
  | .tstRegReg _ => ⟨"TST.regreg", 32, 0x0FF00090, 0x01100010⟩
  | .teqImm _ => ⟨"TEQ.imm", 32, 0x0FF00000, 0x03300000⟩
  | .teqRegImm _ => ⟨"TEQ.regimm", 32, 0x0FF00010, 0x01300000⟩
  | .teqRegReg _ => ⟨"TEQ.regreg", 32, 0x0FF00090, 0x01300010⟩
  | .cmpImm _ => ⟨"CMP.imm", 32, 0x0FF00000, 0x03500000⟩
  | .cmpRegImm _ => ⟨"CMP.regimm", 32, 0x0FF00010, 0x01500000⟩
  | .cmpRegReg _ => ⟨"CMP.regreg", 32, 0x0FF00090, 0x01500010⟩
  | .cmnImm _ => ⟨"CMN.imm", 32, 0x0FF00000, 0x03700000⟩
  | .cmnRegImm _ => ⟨"CMN.regimm", 32, 0x0FF00010, 0x01700000⟩
  | .cmnRegReg _ => ⟨"CMN.regreg", 32, 0x0FF00090, 0x01700010⟩
  | .orrImm _ => ⟨"ORR.imm", 32, 0x0FE00000, 0x03800000⟩
  | .orrRegImm _ => ⟨"ORR.regimm", 32, 0x0FE00010, 0x01800000⟩
  | .orrRegReg _ => ⟨"ORR.regreg", 32, 0x0FE00090, 0x01800010⟩
  | .movImm _ => ⟨"MOV.imm", 32, 0x0FE00000, 0x03A00000⟩
  | .movRegImm _ => ⟨"MOV.regimm", 32, 0x0FE00010, 0x01A00000⟩
  | .movRegReg _ => ⟨"MOV.regreg", 32, 0x0FE00090, 0x01A00010⟩
  | .bicImm _ => ⟨"BIC.imm", 32, 0x0FE00000, 0x03C00000⟩
  | .bicRegImm _ => ⟨"BIC.regimm", 32, 0x0FE00010, 0x01C00000⟩
  | .bicRegReg _ => ⟨"BIC.regreg", 32, 0x0FE00090, 0x01C00010⟩
  | .mvnImm _ => ⟨"MVN.imm", 32, 0x0FE00000, 0x03E00000⟩
  | .mvnRegImm _ => ⟨"MVN.regimm", 32, 0x0FE00010, 0x01E00000⟩
  | .mvnRegReg _ => ⟨"MVN.regreg", 32, 0x0FE00090, 0x01E00010⟩
  | .mrs _ => ⟨"MRS", 32, 0x0FBF0FFF, 0x010F0000⟩
  | .msrReg _ => ⟨"MSR.reg", 32, 0x0FB0FFF0, 0x0120F000⟩
  | .msrImm _ => ⟨"MSR.imm", 32, 0x0FB0F000, 0x0320F000⟩
  | .mul _ => ⟨"MUL", 32, 0x0FE000F0, 0x00000090⟩
  | .mla _ => ⟨"MLA", 32, 0x0FE000F0, 0x00200090⟩
  | .umull _ => ⟨"UMULL", 32, 0x0FE000F0, 0x00800090⟩
  | .umlal _ => ⟨"UMLAL", 32, 0x0FE000F0, 0x00A00090⟩
  | .smull _ => ⟨"SMULL", 32, 0x0FE000F0, 0x00C00090⟩
  | .smlal _ => ⟨"SMLAL", 32, 0x0FE000F0, 0x00E00090⟩
  | .swp _ => ⟨"SWP", 32, 0x0FF00FF0, 0x01000090⟩
  | .swpb _ => ⟨"SWPB", 32, 0x0FF00FF0, 0x01400090⟩
  | .bx _ => ⟨"BX", 32, 0x0FFFFFF0, 0x012FFF10⟩
  | .strhReg _ => ⟨"STRH.reg", 32, 0x0E5000F0, 0x000000B0⟩
  | .strhImm _ => ⟨"STRH.imm", 32, 0x0E5000F0, 0x004000B0⟩
  | .ldrhReg _ => ⟨"LDRH.reg", 32, 0x0E5000F0, 0x001000B0⟩
  | .ldrhImm _ => ⟨"LDRH.imm", 32, 0x0E5000F0, 0x005000B0⟩
  | .ldrsbReg _ => ⟨"LDRSB.reg", 32, 0x0E5000F0, 0x001000D0⟩
  | .ldrsbImm _ => ⟨"LDRSB.imm", 32, 0x0E5000F0, 0x005000D0⟩
  | .ldrshReg _ => ⟨"LDRSH.reg", 32, 0x0E5000F0, 0x001000F0⟩
  | .ldrshImm _ => ⟨"LDRSH.imm", 32, 0x0E5000F0, 0x005000F0⟩
  | .ldrImmPre _ => ⟨"LDR.imm.pre", 32, 0x0F500000, 0x05100000⟩
  | .ldrImmPost _ => ⟨"LDR.imm.post", 32, 0x0F700000, 0x04100000⟩
  | .ldrtImm _ => ⟨"LDRT.imm", 32, 0x0F700000, 0x04300000⟩
  | .ldrRegPre _ => ⟨"LDR.reg.pre", 32, 0x0F500010, 0x07100000⟩
  | .ldrRegPost _ => ⟨"LDR.reg.post", 32, 0x0F700010, 0x06100000⟩
  | .ldrtReg _ => ⟨"LDRT.reg", 32, 0x0F700010, 0x06300000⟩
  | .strImmPre _ => ⟨"STR.imm.pre", 32, 0x0F500000, 0x05000000⟩
  | .strImmPost _ => ⟨"STR.imm.post", 32, 0x0F700000, 0x04000000⟩
  | .strtImm _ => ⟨"STRT.imm", 32, 0x0F700000, 0x04200000⟩
  | .strRegPre _ => ⟨"STR.reg.pre", 32, 0x0F500010, 0x07000000⟩
  | .strRegPost _ => ⟨"STR.reg.post", 32, 0x0F700010, 0x06000000⟩
  | .strtReg _ => ⟨"STRT.reg", 32, 0x0F700010, 0x06200000⟩
  | .ldrbImmPre _ => ⟨"LDRB.imm.pre", 32, 0x0F500000, 0x05500000⟩
  | .ldrbImmPost _ => ⟨"LDRB.imm.post", 32, 0x0F700000, 0x04500000⟩
  | .ldrbtImm _ => ⟨"LDRBT.imm", 32, 0x0F700000, 0x04700000⟩
  | .ldrbRegPre _ => ⟨"LDRB.reg.pre", 32, 0x0F500010, 0x07500000⟩
  | .ldrbRegPost _ => ⟨"LDRB.reg.post", 32, 0x0F700010, 0x06500000⟩
  | .ldrbtReg _ => ⟨"LDRBT.reg", 32, 0x0F700010, 0x06700000⟩
  | .strbImmPre _ => ⟨"STRB.imm.pre", 32, 0x0F500000, 0x05400000⟩
  | .strbImmPost _ => ⟨"STRB.imm.post", 32, 0x0F700000, 0x04400000⟩
  | .strbtImm _ => ⟨"STRBT.imm", 32, 0x0F700000, 0x04600000⟩
  | .strbRegPre _ => ⟨"STRB.reg.pre", 32, 0x0F500010, 0x07400000⟩
  | .strbRegPost _ => ⟨"STRB.reg.post", 32, 0x0F700010, 0x06400000⟩
  | .strbtReg _ => ⟨"STRBT.reg", 32, 0x0F700010, 0x06600000⟩
  | .ldm _ => ⟨"LDM", 32, 0x0E100000, 0x08100000⟩
  | .stm _ => ⟨"STM", 32, 0x0E100000, 0x08000000⟩
  | .b _ => ⟨"B", 32, 0x0F000000, 0x0A000000⟩
  | .bl _ => ⟨"BL", 32, 0x0F000000, 0x0B000000⟩
  | .stc _ => ⟨"STC", 32, 0x0E100000, 0x0C000000⟩
  | .ldc _ => ⟨"LDC", 32, 0x0E100000, 0x0C100000⟩
  | .cdp _ => ⟨"CDP", 32, 0x0F000010, 0x0E000000⟩
  | .mcr _ => ⟨"MCR", 32, 0x0F100010, 0x0E000010⟩
  | .mrc _ => ⟨"MRC", 32, 0x0F100010, 0x0E100010⟩
  | .swi _ => ⟨"SWI", 32, 0x0F000000, 0x0F000000⟩
  | .tLslImm _ => ⟨"T.LSL.imm", 16, 0xF800, 0x0000⟩
  | .tLsrImm _ => ⟨"T.LSR.imm", 16, 0xF800, 0x0800⟩
  | .tAsrImm _ => ⟨"T.ASR.imm", 16, 0xF800, 0x1000⟩
  | .tAddReg _ => ⟨"T.ADD.reg", 16, 0xFE00, 0x1800⟩
  | .tSubReg _ => ⟨"T.SUB.reg", 16, 0xFE00, 0x1A00⟩
  | .tAddImm3 _ => ⟨"T.ADD.imm3", 16, 0xFE00, 0x1C00⟩
  | .tSubImm3 _ => ⟨"T.SUB.imm3", 16, 0xFE00, 0x1E00⟩
  | .tMovImm8 _ => ⟨"T.MOV.imm8", 16, 0xF800, 0x2000⟩
  | .tCmpImm8 _ => ⟨"T.CMP.imm8", 16, 0xF800, 0x2800⟩
  | .tAddImm8 _ => ⟨"T.ADD.imm8", 16, 0xF800, 0x3000⟩
  | .tSubImm8 _ => ⟨"T.SUB.imm8", 16, 0xF800, 0x3800⟩
  | .tAnd _ => ⟨"T.AND", 16, 0xFFC0, 0x4000⟩
  | .tEor _ => ⟨"T.EOR", 16, 0xFFC0, 0x4040⟩
  | .tLslReg _ => ⟨"T.LSL.reg", 16, 0xFFC0, 0x4080⟩
  | .tLsrReg _ => ⟨"T.LSR.reg", 16, 0xFFC0, 0x40C0⟩
  | .tAsrReg _ => ⟨"T.ASR.reg", 16, 0xFFC0, 0x4100⟩
  | .tAdc _ => ⟨"T.ADC", 16, 0xFFC0, 0x4140⟩
  | .tSbc _ => ⟨"T.SBC", 16, 0xFFC0, 0x4180⟩
  | .tRor _ => ⟨"T.ROR", 16, 0xFFC0, 0x41C0⟩
  | .tTst _ => ⟨"T.TST", 16, 0xFFC0, 0x4200⟩
  | .tNeg _ => ⟨"T.NEG", 16, 0xFFC0, 0x4240⟩
  | .tCmpReg _ => ⟨"T.CMP.reg", 16, 0xFFC0, 0x4280⟩
  | .tCmn _ => ⟨"T.CMN", 16, 0xFFC0, 0x42C0⟩
  | .tOrr _ => ⟨"T.ORR", 16, 0xFFC0, 0x4300⟩
  | .tMul _ => ⟨"T.MUL", 16, 0xFFC0, 0x4340⟩
  | .tBic _ => ⟨"T.BIC", 16, 0xFFC0, 0x4380⟩
  | .tMvn _ => ⟨"T.MVN", 16, 0xFFC0, 0x43C0⟩
  | .tAddHi _ => ⟨"T.ADD.hi", 16, 0xFF00, 0x4400⟩
  | .tCmpHi _ => ⟨"T.CMP.hi", 16, 0xFF00, 0x4500⟩
  | .tMovHi _ => ⟨"T.MOV.hi", 16, 0xFF00, 0x4600⟩
  | .tBx _ => ⟨"T.BX", 16, 0xFF87, 0x4700⟩
  | .tLdrPc _ => ⟨"T.LDR.pc", 16, 0xF800, 0x4800⟩
  | .tStrReg _ => ⟨"T.STR.reg", 16, 0xFE00, 0x5000⟩
  | .tStrbReg _ => ⟨"T.STRB.reg", 16, 0xFE00, 0x5400⟩
  | .tLdrReg _ => ⟨"T.LDR.reg", 16, 0xFE00, 0x5800⟩
  | .tLdrbReg _ => ⟨"T.LDRB.reg", 16, 0xFE00, 0x5C00⟩
  | .tStrhReg _ => ⟨"T.STRH.reg", 16, 0xFE00, 0x5200⟩
  | .tLdsb _ => ⟨"T.LDSB", 16, 0xFE00, 0x5600⟩
  | .tLdrhReg _ => ⟨"T.LDRH.reg", 16, 0xFE00, 0x5A00⟩
  | .tLdsh _ => ⟨"T.LDSH", 16, 0xFE00, 0x5E00⟩
  | .tStrImm _ => ⟨"T.STR.imm", 16, 0xF800, 0x6000⟩
  | .tLdrImm _ => ⟨"T.LDR.imm", 16, 0xF800, 0x6800⟩
  | .tStrbImm _ => ⟨"T.STRB.imm", 16, 0xF800, 0x7000⟩
  | .tLdrbImm _ => ⟨"T.LDRB.imm", 16, 0xF800, 0x7800⟩
  | .tStrhImm _ => ⟨"T.STRH.imm", 16, 0xF800, 0x8000⟩
  | .tLdrhImm _ => ⟨"T.LDRH.imm", 16, 0xF800, 0x8800⟩
  | .tStrSp _ => ⟨"T.STR.sp", 16, 0xF800, 0x9000⟩
  | .tLdrSp _ => ⟨"T.LDR.sp", 16, 0xF800, 0x9800⟩
  | .tAddPc _ => ⟨"T.ADD.pc", 16, 0xF800, 0xA000⟩
  | .tAddSp _ => ⟨"T.ADD.sp", 16, 0xF800, 0xA800⟩
  | .tAddSpImm7 _ => ⟨"T.ADDSP", 16, 0xFF80, 0xB000⟩
  | .tSubSpImm7 _ => ⟨"T.SUBSP", 16, 0xFF80, 0xB080⟩
  | .tPush _ => ⟨"T.PUSH", 16, 0xFE00, 0xB400⟩
  | .tPop _ => ⟨"T.POP", 16, 0xFE00, 0xBC00⟩
  | .tStmia _ => ⟨"T.STMIA", 16, 0xF800, 0xC000⟩
  | .tLdmia _ => ⟨"T.LDMIA", 16, 0xF800, 0xC800⟩
  | .tBeq _ => ⟨"T.BEQ", 16, 0xFF00, 0xD000⟩
  | .tBne _ => ⟨"T.BNE", 16, 0xFF00, 0xD100⟩
  | .tBcs _ => ⟨"T.BCS", 16, 0xFF00, 0xD200⟩
  | .tBcc _ => ⟨"T.BCC", 16, 0xFF00, 0xD300⟩
  | .tBmi _ => ⟨"T.BMI", 16, 0xFF00, 0xD400⟩
  | .tBpl _ => ⟨"T.BPL", 16, 0xFF00, 0xD500⟩
  | .tBvs _ => ⟨"T.BVS", 16, 0xFF00, 0xD600⟩
  | .tBvc _ => ⟨"T.BVC", 16, 0xFF00, 0xD700⟩
  | .tBhi _ => ⟨"T.BHI", 16, 0xFF00, 0xD800⟩
  | .tBls _ => ⟨"T.BLS", 16, 0xFF00, 0xD900⟩
  | .tBge _ => ⟨"T.BGE", 16, 0xFF00, 0xDA00⟩
  | .tBlt _ => ⟨"T.BLT", 16, 0xFF00, 0xDB00⟩
  | .tBgt _ => ⟨"T.BGT", 16, 0xFF00, 0xDC00⟩
  | .tBle _ => ⟨"T.BLE", 16, 0xFF00, 0xDD00⟩
  | .tSwi _ => ⟨"T.SWI", 16, 0xFF00, 0xDF00⟩
  | .tB _ => ⟨"T.B", 16, 0xF800, 0xE000⟩
  | .tBlHi _ => ⟨"T.BL.hi", 16, 0xF800, 0xF000⟩
  | .tBlLo _ => ⟨"T.BL.lo", 16, 0xF800, 0xF800⟩

end Sys2Proof
end

