-- ==== Sys2Proof/Machine/State.lean ====
section
/-!
DEFINITION. The state of the machine, plain data (spec/10_state.md; the list is INVENTORY.md's State section), the
reasons a step can stop (spec/60_exceptions.md) and the state after reset (R49, R481).
-/

namespace Sys2Proof.Machine

/-- The seven operating modes (R30). `mode` never holds another value (R34), so it is the name and not the number. -/
inductive Mode where
  | usr | fiq | irq | svc | abt | und | sys
  deriving DecidableEq, Repr

/-- The six banks (R31). -/
inductive Bank where
  | usr | fiq | irq | svc | abt | und
  deriving DecidableEq, Repr

/-- The two owners of R8 to R12 (R33). -/
inductive HighBank where
  | fiq | other
  deriving DecidableEq, Repr

/-- `shadow[b]` of one bank: R13, R14 and the saved status (R32). -/
structure BankShadow where
  r13  : Word
  r14  : Word
  spsr : Word
  deriving DecidableEq, Repr

/-- `shadow`, one entry per bank (R32). The entry of the active bank is stale (R32). -/
structure Shadow where
  usr : BankShadow
  fiq : BankShadow
  irq : BankShadow
  svc : BankShadow
  abt : BankShadow
  und : BankShadow
  deriving DecidableEq, Repr

/-- `shadow8_12`: two sets of R8 to R12, element 0 being R8 (R33). -/
structure HighShadow where
  fiq   : Vector Word 5
  other : Vector Word 5
  deriving DecidableEq, Repr

/-- The state of the CORE and of the reference memory agent plugged into its bus port (R16, R67; log 1). -/
structure State where
  /-- The live general registers `x[0]` to `x[15]`; `x[15]` is the program counter (R20, R23). -/
  x : Vector Word 16
  /-- Negative flag (R25, R26). -/
  n : Bool
  /-- Zero flag (R25, R26). -/
  z : Bool
  /-- Carry flag (R25, R26). -/
  c : Bool
  /-- Overflow flag (R25, R26). -/
  v : Bool
  /-- IRQ-disable (R29). -/
  i : Bool
  /-- FIQ-disable (R29). -/
  f : Bool
  /-- Execution-state bit: false is ARM state, true is Thumb state (R27). -/
  t : Bool
  /-- Operating mode (R30). -/
  mode : Mode
  /-- The live saved status (R35). -/
  spsr : Word
  /-- The shadows of R13, R14 and the saved status (R32). -/
  shadow : Shadow
  /-- The shadows of R8 to R12 (R33). -/
  shadow8_12 : HighShadow
  /-- The cycle counter, unbounded (R45). -/
  cycles : Nat
  /-- The next instruction fetch is charged at the non-sequential cost (R44). -/
  fetchNonSeq : Bool
  /-- The per-step condition-passed flag (R43). -/
  condPassed : Bool
  /-- The instruction cache's ARM entries by address, addresses strictly rising (R46, R80; log 12). -/
  icacheArm : List (Nat × DecodedOp)
  /-- The instruction cache's Thumb entries by address, addresses strictly rising (R46, R80; log 12). -/
  icacheThumb : List (Nat × DecodedOp)
  /-- The reference memory `M` (R67): addresses strictly rising, below 2^32, and no entry equal to
  `Config.unlistedByte`, which every unlisted address reads as (log 2). -/
  mem : List Host.Cell
  /-- The words reported on the `log` port, newest first: an output trace that no rule reads (R455; log 10). -/
  log : List Word
  deriving DecidableEq, Repr

/-- The two kinds of invariant violation (R451). -/
inductive InvariantKind where
  /-- The saved status is used in User or System mode (R35). -/
  | noSpsr
  /-- A switch to a mode number that is none of the seven (R36). -/
  | badMode
  deriving DecidableEq, Repr

/-- The faults, outcomes of `step` that are not a next state (R440). Each carries the state left behind: "A fault ends
the step at the point of the raise and undoes nothing" (R453; log 11). -/
inductive Fault where
  /-- Class (a), raised by running the `Illegal` operation (R331, R450), with the instruction word. Safe: the spec's own
  fatal fault. -/
  | illegalInstruction (instr : Word) (left : State)
  /-- Class (c) (R451), raised by MRS and MSR on the saved status, by data processing with S = 1 and Rd = 15, by LDM with
  S and register 15, by MSR to the control field. Safe: the spec's own fault. -/
  | invariantViolation (kind : InvariantKind) (left : State)
  deriving DecidableEq, Repr

/-- The refusals: what the spec gives no outcome, and what this model has no meaning for. -/
inductive Refusal where
  /-- An instruction of the table that has no meaning yet. Raised by no arm of `exec` of this model. Safe. -/
  | notModelled (mnemonic : String)
  /-- LDM, STM, PUSH, POP, STMIA or LDMIA with an empty register list: "`EmptyList()` has no defined outcome ... a model
  must refuse to step them" (R309, R415; log 7). Safe. -/
  | emptyRegisterList
  /-- The host resets the CORE to an entry that is not a multiple of 4, which R480 excludes (log 18). Raised by the
  `reset` port only, by no instruction. Safe. -/
  | misalignedResetEntry
  /-- The host loads a persisted state that breaks R34 or R35's invariants: "outside the spec" (R48; log 19). Raised by
  the persist port only, by no instruction. Safe. -/
  | illFormedPersistedState
  /-- A faulted machine is stepped, or asked for an interrupt, before a reset or a persist load: "stepping a faulted machine
  again is outside the spec" (R453), and U27 says `refuse` (log 24). Raised by `reactFaulted` only, by no instruction. Safe. -/
  | faultedMachine
  deriving DecidableEq, Repr

/-- What an operation of the machine answers. -/
abbrev Result := Host.Outcome State Fault Refusal

/-- A bank of zeros (R49). -/
def BankShadow.reset : BankShadow := { r13 := 0#32, r14 := 0#32, spsr := 0#32 }

/-- The state after `reset(entry)` over a memory and a log that reset does not touch (R481, R482). `condPassed` is "not
meaningful between steps" (R49): DESIGN CHOICE true, log 6. -/
def State.resetAt (entry : Word) (mem : List Host.Cell) (log : List Word) : State where
  x := #v[0#32, 0#32, 0#32, 0#32, 0#32, 0#32, 0#32, 0#32, 0#32, 0#32, 0#32, 0#32, 0#32, 0#32, 0#32, entry + 4#32]
  n := false
  z := false
  c := false
  v := false
  i := true
  f := true
  t := false
  mode := .svc
  spsr := 0#32
  shadow := ⟨.reset, .reset, .reset, .reset, .reset, .reset⟩
  shadow8_12 := ⟨#v[0#32, 0#32, 0#32, 0#32, 0#32], #v[0#32, 0#32, 0#32, 0#32, 0#32]⟩
  cycles := 0
  fetchNonSeq := true
  condPassed := true
  icacheArm := []
  icacheThumb := []
  mem := mem
  log := log

/-- The machine right after reset (R49, R481): entry `Config.resetEntry`, memory with nothing listed, an empty log. -/
def State.reset : State := State.resetAt Config.resetEntry [] []

end Sys2Proof.Machine
end

