-- ==== Sys2Proof/Machine/Memory.lean ====
section
/-!
DEFINITION. The reference memory agent and the bus port (spec/20_memory.md R60 to R72), the instruction cache's storage
and its invalidation (R80, R84). Memory and both halves of the cache are association lists in one canonical form,
addresses strictly rising.
-/

namespace Sys2Proof.Machine

/-! ## Association lists by address -/

/-- The value at a key, if the list has one. -/
def SortedMap.find {α : Type} (k : Nat) : List (Nat × α) → Option α
  | [] => none
  | e :: rest => if e.1 = k then some e.2 else SortedMap.find k rest

/-- The list with the value at a key put in its place, replacing what stood there. -/
def SortedMap.insert {α : Type} (k : Nat) (a : α) : List (Nat × α) → List (Nat × α)
  | [] => [(k, a)]
  | e :: rest =>
    if k < e.1 then (k, a) :: e :: rest
    else if k = e.1 then (k, a) :: rest
    else e :: SortedMap.insert k a rest

/-- The list without a key. -/
def SortedMap.erase {α : Type} (k : Nat) : List (Nat × α) → List (Nat × α)
  | [] => []
  | e :: rest => if e.1 = k then SortedMap.erase k rest else e :: SortedMap.erase k rest

/-- The canonical form: keys strictly rising. -/
abbrev SortedMap.rising {α : Type} (l : List (Nat × α)) : Prop := l.Pairwise fun d e => d.1 < e.1

/-! ## The byte map `M` -/

/-- `M[a]` (R67); an unlisted address reads `Config.unlistedByte` (log 2). -/
def Memory.read (m : List Host.Cell) (a : Nat) : Byte := (SortedMap.find a m).getD Config.unlistedByte

/-- `M[a] <- b` (R67), keeping the canonical form. -/
def Memory.write (m : List Host.Cell) (a : Nat) (b : Byte) : List Host.Cell :=
  if b = Config.unlistedByte then SortedMap.erase a m else SortedMap.insert a b m

/-- The canonical form of memory: addresses strictly rising, in the 2^32 bytes of the address space (R50), and no entry
equal to what an unlisted address reads as. -/
abbrev Memory.wf (m : List Host.Cell) : Prop :=
  SortedMap.rising m ∧ ∀ e ∈ m, e.1 < 2 ^ 32 ∧ e.2 ≠ Config.unlistedByte

/-- The byte of memory at a 32-bit address (R67). -/
def State.byteAt (s : State) (a : Word) : Byte := Memory.read s.mem a.toNat

/-- The state with one byte of memory written, and nothing else done. -/
def State.setByte (s : State) (a : Word) (b : Byte) : State := { s with mem := Memory.write s.mem a.toNat b }

/-! ## Alignment -/

/-- `a AND 0xFFFFFFFC`. -/
def alignWord (a : Word) : Word := a &&& 0xFFFFFFFC#32

/-- `a AND 0xFFFFFFFE`. -/
def alignHalf (a : Word) : Word := a &&& 0xFFFFFFFE#32

/-! ## Cache invalidation -/

/-- The entries covering one byte go: the ARM entry at `a AND 0xFFFFFFFC`, the Thumb entry at `a AND 0xFFFFFFFE` (R84). -/
def State.invalidateByte (s : State) (a : Word) : State :=
  { s with icacheArm := SortedMap.erase (alignWord a).toNat s.icacheArm
           icacheThumb := SortedMap.erase (alignHalf a).toNat s.icacheThumb }

/-- `invalidate(a, n)` (R84): every entry whose granule contains one of the bytes `a` to `a + n - 1`. -/
def State.invalidate (s : State) (a : Word) : Nat → State
  | 0 => s
  | n + 1 => (s.invalidate a n).invalidateByte (a + BitVec.ofNat 32 n)

/-! ## Loads -/

/-- The little-endian halfword at `a` and `a + 1` (R67). -/
def State.halfAt (s : State) (a : Word) : Half := s.byteAt (a + 1#32) ++ s.byteAt a

/-- The little-endian word at `a` to `a + 3` (R67). -/
def State.wordAt (s : State) (a : Word) : Word :=
  s.byteAt (a + 3#32) ++ s.byteAt (a + 2#32) ++ s.byteAt (a + 1#32) ++ s.byteAt a

/-- `loadU8(a)`: the byte, zero-extended (R60, R68). -/
def State.loadU8 (s : State) (a : Word) : Word := (s.byteAt a).setWidth 32

/-- `load8(a)`: the byte, sign-extended (R60, R68). -/
def State.load8 (s : State) (a : Word) : Word := (s.byteAt a).signExtend 32

/-- `loadU16(a)`: the halfword, zero-extended; an odd address gives the aligned one rotated right by 8 (R68, R70). -/
def State.loadU16 (s : State) (a : Word) : Word :=
  let h := (s.halfAt (alignHalf a)).setWidth 32
  if a.getLsbD 0 then h.rotateRight 8 else h

/-- `load16(a)`: the halfword, sign-extended; an odd address gives the addressed byte sign-extended (R68, R70). -/
def State.load16 (s : State) (a : Word) : Word :=
  if a.getLsbD 0 then (s.byteAt a).signExtend 32 else (s.halfAt a).signExtend 32

/-- `load32(a)`: the aligned word, rotated right by `8 * a[1:0]` (R68, R69). -/
def State.load32 (s : State) (a : Word) : Word :=
  (s.wordAt (alignWord a)).rotateRight (8 * (a.extractLsb' 0 2).toNat)

/-! ## Stores -/

/-- `store8(a, v)` (R71, R62). -/
def State.store8 (s : State) (a v : Word) : State := (s.setByte a (v.extractLsb' 0 8)).invalidate a 1

/-- The low halfword of `v` written at `a` and `a + 1`. -/
def State.setHalf (s : State) (a v : Word) : State :=
  (s.setByte a (v.extractLsb' 0 8)).setByte (a + 1#32) (v.extractLsb' 8 8)

/-- `store16(a, v)`: bit 0 of the address is ignored (R71, R62). -/
def State.store16 (s : State) (a v : Word) : State := (s.setHalf (alignHalf a) v).invalidate (alignHalf a) 2

/-- The word `v` written at `a` to `a + 3`. -/
def State.setWord (s : State) (a v : Word) : State :=
  (((s.setByte a (v.extractLsb' 0 8)).setByte (a + 1#32) (v.extractLsb' 8 8)).setByte (a + 2#32)
    (v.extractLsb' 16 8)).setByte (a + 3#32) (v.extractLsb' 24 8)

/-- `store32(a, v)`: bits 1:0 of the address are ignored, the value is not rotated (R71, R62). -/
def State.store32 (s : State) (a v : Word) : State := (s.setWord (alignWord a) v).invalidate (alignWord a) 4

/-! ## The transactions of the pseudocode -/

/-- The width of a bus transaction: `n` of R61 to R64. -/
inductive Width where
  | byte | half | word
  deriving DecidableEq, Repr

/-- The five reads of R61: `MemRead(a, 1)`, `MemReadS(a, 1)`, `MemRead(a, 2)`, `MemReadS(a, 2)`, `MemRead(a, 4)`. -/
inductive LoadKind where
  | byte | signedByte | half | signedHalf | word
  deriving DecidableEq, Repr

/-- The width of a read (R61). -/
def LoadKind.width : LoadKind → Width
  | .byte | .signedByte => .byte
  | .half | .signedHalf => .half
  | .word => .word

/-- The value of a read: the port call of R61's table. -/
def State.memRead (s : State) (k : LoadKind) (a : Word) : Word :=
  match k with
  | .byte => s.loadU8 a
  | .signedByte => s.load8 a
  | .half => s.loadU16 a
  | .signedHalf => s.load16 a
  | .word => s.load32 a

/-- `MemWrite(a, n, v)` (R62). -/
def State.memWrite (s : State) (w : Width) (a v : Word) : State :=
  match w with
  | .byte => s.store8 a v
  | .half => s.store16 a v
  | .word => s.store32 a v

/-- The address of the first byte a store of this width writes (R71). -/
def Width.storeBase (w : Width) (a : Word) : Word :=
  match w with
  | .byte => a
  | .half => alignHalf a
  | .word => alignWord a

/-- The number of bytes of a transaction (R62). -/
def Width.bytes : Width → Nat
  | .byte => 1
  | .half => 2
  | .word => 4

end Sys2Proof.Machine
end

