-- ==== Sys2Proof/Machine/Timing.lean ====
section
/-!
DEFINITION. Cycle accounting (spec/70_reset_and_hazards.md R500 to R506). Nothing functional reads what these write
(R508). The order of the cost calls within an instruction cannot be seen in `cycles`, only their sum (log 23).
-/

namespace Sys2Proof.Machine

/-- The execution state `T` selects (R27). -/
def State.execState (s : State) : ExecState := if s.t then .thumb else .arm

/-- The instruction width `W` in bytes: 4 in ARM state, 2 in Thumb state (R28). -/
def State.width (s : State) : Word := if s.t then 2#32 else 4#32

/-- `x[15]`, raw (R23). -/
def State.pc (s : State) : Word := s.x[15]

/-- The address of the instruction being executed, `x[15] - 2W` (R23, R500). -/
def State.currentAddress (s : State) : Word := s.pc - 2#32 * s.width

/-- `FetchCost()` (R500). -/
def State.fetchCost (s : State) : State :=
  let a := s.currentAddress
  let k :=
    if s.t then (if s.fetchNonSeq then Config.waitN16 a else Config.waitS16 a)
    else (if s.fetchNonSeq then Config.waitN32 a else Config.waitS32 a)
  { s with cycles := s.cycles + k, fetchNonSeq := false }

/-- `InternalCycle()` called `k` times (R501). -/
def State.internalCycles (s : State) (k : Nat) : State := { s with cycles := s.cycles + k }

/-- `InternalCycle()` (R501). -/
def State.internalCycle (s : State) : State := s.internalCycles 1

/-- `RefillCost(p, W')` (R502), `W'` by `T`. -/
def State.refillCost (s : State) (p : Word) : State :=
  let k :=
    if s.t then Config.waitN16 p + Config.waitS16 (p + 2#32)
    else Config.waitN32 p + Config.waitS32 (p + 4#32)
  { s with cycles := s.cycles + k, fetchNonSeq := false }

/-- `DataCost(a, n, seq)` (R503). A byte access is of the 16-bit class (R64). -/
def State.dataCost (s : State) (w : Width) (seq : Bool) (a : Word) : State :=
  let k :=
    match w with
    | .word => if seq then Config.waitS32 a else Config.waitN32 a
    | .byte | .half => if seq then Config.waitS16 a else Config.waitN16 a
  { s with cycles := s.cycles + k, fetchNonSeq := true }

/-- Multiplier cycles `m` of the signed and 32-bit multiplies (R506): the first column that applies. -/
def multiplierCyclesSigned (v : Word) : Nat :=
  if v.extractLsb' 8 24 == 0#24 || v.extractLsb' 8 24 == 0xFFFFFF#24 then 1
  else if v.extractLsb' 16 16 == 0#16 || v.extractLsb' 16 16 == 0xFFFF#16 then 2
  else if v.extractLsb' 24 8 == 0#8 || v.extractLsb' 24 8 == 0xFF#8 then 3
  else 4

/-- Multiplier cycles `m` of UMULL and UMLAL (R506). -/
def multiplierCyclesUnsigned (v : Word) : Nat :=
  if v.extractLsb' 8 24 == 0#24 then 1
  else if v.extractLsb' 16 16 == 0#16 then 2
  else if v.extractLsb' 24 8 == 0#8 then 3
  else 4

end Sys2Proof.Machine
end

