-- ==== Sys2Proof/Machine/Ops.lean ====
section
/-!
DEFINITION. The named operations over registers, modes and status (spec/10_state.md R20 to R40), taking an exception and
returning from one (spec/60_exceptions.md R442, R446, R447), and what every operation of an instruction begins with (R156).
-/

namespace Sys2Proof.Machine

/-- One operation after another: a fault or a refusal ends the first (R159). -/
def Result.andThen (r : Result) (k : State → Result) : Result :=
  match r with
  | .next s => k s
  | .fault e => .fault e
  | .refused e => .refused e

/-! ## Registers -/

/-- `x[i]`, a read of a live register; `x[15]` is raw (R12, R20). -/
def State.reg (s : State) (r : Reg) : Word := s.x[r.toNat]'r.isLt

/-- `x[i] <- v`, a write of a live register. With register 15 it is `pc <- v` (R12). -/
def State.setReg (s : State) (r : Reg) (v : Word) : State := { s with x := s.x.set r.toNat v r.isLt }

/-- `pc <- v`: the control transfer's write of `x[15]` (R12). -/
def State.setPc (s : State) (v : Word) : State := s.setReg Reg.pc v

/-- The stack pointer's number, `x[13]` (R21). -/
abbrev Reg.sp : Reg := 13#4

/-- The link register's number, `x[14]` (R21). -/
abbrev Reg.lr : Reg := 14#4

/-- A register as a store reads it: register 15 is stored as `x[15] + (STORE_PC_OFFSET - 8)` (R278, R306; log 15). -/
def State.storedReg (s : State) (r : Reg) : Word :=
  if r = Reg.pc then s.pc + (Config.storePcOffset - 8#32) else s.reg r

/-! ## Modes and banks -/

/-- The number of a mode (R30). -/
def Mode.bits : Mode → BitVec 5
  | .usr => 0x10 | .fiq => 0x11 | .irq => 0x12 | .svc => 0x13 | .abt => 0x17 | .und => 0x1B | .sys => 0x1F

/-- The mode of a number, `none` for the 25 illegal numbers (R30). -/
def Mode.ofBits (b : BitVec 5) : Option Mode :=
  match b.toNat with
  | 0x10 => some .usr | 0x11 => some .fiq | 0x12 => some .irq | 0x13 => some .svc
  | 0x17 => some .abt | 0x1B => some .und | 0x1F => some .sys | _ => none

/-- `BankOf(mode)`: User and System share bank USR (R30, R31). -/
def Mode.bank : Mode → Bank
  | .usr | .sys => .usr
  | .fiq => .fiq
  | .irq => .irq
  | .svc => .svc
  | .abt => .abt
  | .und => .und

/-- `HasSPSR()`: every mode but User and System (R35). -/
def Mode.hasSpsr : Mode → Bool
  | .usr | .sys => false
  | .fiq | .irq | .svc | .abt | .und => true

/-- Which set of R8 to R12 a bank uses (R33). -/
def Bank.high : Bank → HighBank
  | .fiq => .fiq
  | .usr | .irq | .svc | .abt | .und => .other

/-- `shadow[b]` (R32). -/
def Shadow.get (h : Shadow) : Bank → BankShadow
  | .usr => h.usr | .fiq => h.fiq | .irq => h.irq | .svc => h.svc | .abt => h.abt | .und => h.und

/-- `shadow[b] <- e` (R32). -/
def Shadow.set (h : Shadow) (b : Bank) (e : BankShadow) : Shadow :=
  match b with
  | .usr => { h with usr := e } | .fiq => { h with fiq := e } | .irq => { h with irq := e }
  | .svc => { h with svc := e } | .abt => { h with abt := e } | .und => { h with und := e }

/-- `shadow8_12[b]` (R33). -/
def HighShadow.get (h : HighShadow) : HighBank → Vector Word 5
  | .fiq => h.fiq | .other => h.other

/-- `shadow8_12[b] <- e` (R33). -/
def HighShadow.set (h : HighShadow) (b : HighBank) (e : Vector Word 5) : HighShadow :=
  match b with
  | .fiq => { h with fiq := e } | .other => { h with other := e }

/-- The live R8 to R12. -/
def State.liveHigh (s : State) : Vector Word 5 := #v[s.x[8], s.x[9], s.x[10], s.x[11], s.x[12]]

/-- R8 to R12 saved into the set `old` and loaded from the set `new` (R36). -/
def State.exchangeHigh (s : State) (old new : HighBank) : State :=
  let sets := s.shadow8_12.set old s.liveHigh
  let e := sets.get new
  { s with shadow8_12 := sets
           x := ((((s.x.set 8 e[0]).set 9 e[1]).set 10 e[2]).set 11 e[3]).set 12 e[4] }

/-- R13, R14 and the saved status saved into the bank `old` and loaded from the bank `new`, two different banks (R36). -/
def State.exchangeBank (s : State) (old new : Bank) : State :=
  let e := s.shadow.get new
  { s with shadow := s.shadow.set old { r13 := s.x[13], r14 := s.x[14], spsr := s.spsr }
           x := (s.x.set 13 e.r13).set 14 e.r14
           spsr := e.spsr }

/-- `SwitchMode` to one of the seven modes (R36). -/
def State.switchModeTo (s : State) (m : Mode) : State :=
  if m = s.mode then s
  else
    let nb := m.bank
    let ob := s.mode.bank
    let s1 :=
      if nb = ob then s
      else
        let s0 := if nb = .fiq ∨ ob = .fiq then s.exchangeHigh ob.high nb.high else s
        s0.exchangeBank ob nb
    { s1 with mode := m }

/-- `SwitchMode(target)` (R36): `none` is `raise InvariantViolation(BadMode)`. -/
def State.switchMode (s : State) (target : BitVec 5) : Option State :=
  if target = s.mode.bits then some s else (Mode.ofBits target).map s.switchModeTo

/-! ## The status word -/

/-- `PackStatus()` (R38, R40): N Z C V at 31:28, zeros, I F T at 7:5, mode at 4:0. -/
def State.packStatus (s : State) : Word :=
  bit1 s.n ++ bit1 s.z ++ bit1 s.c ++ bit1 s.v ++ 0#20 ++ bit1 s.i ++ bit1 s.f ++ bit1 s.t ++ s.mode.bits

/-- `UnpackStatus(w)` (R39): `none` is the `BadMode` of its mode switch, with nothing else done. -/
def State.unpackStatus (s : State) (w : Word) : Option State :=
  (s.switchMode (w.extractLsb' 0 5)).map fun s1 =>
    { s1 with t := w.getLsbD 5, f := w.getLsbD 6, i := w.getLsbD 7
              v := w.getLsbD 28, c := w.getLsbD 29, z := w.getLsbD 30, n := w.getLsbD 31 }

/-! ## Taking an exception and returning from one -/

/-- The entry both exceptions share (R442, R446): the status word is saved, the mode switched, `SPSR` and `x[14]` of
the new mode written, `T` cleared, `I` set, and `x[15]` put at `target`. -/
def State.takeException (s : State) (m : Mode) (ret target : Word) : State :=
  let s1 := { s.switchModeTo m with spsr := s.packStatus, t := false, i := true }
  (s1.setReg Reg.lr ret).setPc target

/-- `SoftwareInterruptEntry()` (R446): called inside the SWI operation, so the step's write-PC path follows. -/
def State.softwareInterruptEntry (s : State) : State :=
  s.takeException .svc (s.pc - s.width) Config.vectorSwi

/-- `IRQEntry()` (R442): between steps, so `x[15]` is the vector plus the ARM width. -/
def State.irqEntry (s : State) : State :=
  { s.takeException .irq (s.pc - s.width + 4#32) (Config.vectorIrq + 4#32) with fetchNonSeq := true }

/-- The return from an exception (R447, R213, R307): the current status is loaded from the saved status and the PC
written. Without a saved status it raises `NoSPSR`, with an illegal mode number in it `BadMode`; neither writes. -/
def State.returnFromException (s : State) (target : Word) : Result :=
  if s.mode.hasSpsr then
    match s.unpackStatus s.spsr with
    | some s1 => .next (s1.setPc target)
    | none => .fault (.invariantViolation .badMode s)
  else .fault (.invariantViolation .noSpsr s)

/-! ## The user bank -/

/-- `UserReg(i)`, read (R308). -/
def State.userReg (s : State) (r : Reg) : Word :=
  if h : 8 ≤ r.toNat ∧ r.toNat ≤ 12 then
    if s.mode = .fiq then s.shadow8_12.other[r.toNat - 8]'(by omega) else s.reg r
  else if r = Reg.sp then
    if s.mode.bank = .usr then s.reg r else s.shadow.usr.r13
  else if r = Reg.lr then
    if s.mode.bank = .usr then s.reg r else s.shadow.usr.r14
  else s.reg r

/-- `UserReg(i) <- v` (R308). -/
def State.setUserReg (s : State) (r : Reg) (v : Word) : State :=
  if h : 8 ≤ r.toNat ∧ r.toNat ≤ 12 then
    if s.mode = .fiq then
      { s with shadow8_12 := { s.shadow8_12 with other := s.shadow8_12.other.set (r.toNat - 8) v (by omega) } }
    else s.setReg r v
  else if r = Reg.sp then
    if s.mode.bank = .usr then s.setReg r v
    else { s with shadow := { s.shadow with usr := { s.shadow.usr with r13 := v } } }
  else if r = Reg.lr then
    if s.mode.bank = .usr then s.setReg r v
    else { s with shadow := { s.shadow with usr := { s.shadow.usr with r14 := v } } }
  else s.setReg r v

/-! ## The log port -/

/-- `log Unimplemented(instr)` (R455): the word goes out on the log port and nothing else changes. -/
def State.logUnimplemented (s : State) (instr : Word) : State := { s with log := instr :: s.log }

end Sys2Proof.Machine
end

