-- ==== Sys2Proof/Machine/Flags.lean ====
section
/-!
DEFINITION. The condition evaluator (spec/41_condition_and_operand.md R180 to R183), `AddWithCarry`
(spec/00_scope.md R13), the sixteen data-processing computations (spec/42_arm_data_processing.md R215 to R230), every way
an instruction writes flags (R212, R251), and the prologue that tests the condition (spec/40_execution_engine.md R156).
-/

namespace Sys2Proof.Machine

/-! ## The condition evaluator -/

/-- `ConditionPassed(15)` by the parameter `COND15` (R183). With `illegal` no word of condition 15 is decoded, so that
row is never asked. -/
def condition15Passed : Cond15 → Bool
  | .always => true
  | .never => false
  | .illegal => false

/-- `ConditionPassed(cond)` (R181 to R183): it reads N, Z, C, V and nothing else (R180). -/
def State.conditionPassed (s : State) : Cond → Bool
  | .eq => s.z
  | .ne => !s.z
  | .cs => s.c
  | .cc => !s.c
  | .mi => s.n
  | .pl => !s.n
  | .vs => s.v
  | .vc => !s.v
  | .hi => s.c && !s.z
  | .ls => !s.c || s.z
  | .ge => s.n == s.v
  | .lt => s.n != s.v
  | .gt => !s.z && s.n == s.v
  | .le => s.z || s.n != s.v
  | .al => true
  | .nv => condition15Passed Config.cond15

/-- `Prologue(cond)` (R156) and the rest of the operation: the fetch is charged in every case, and a failed condition
clears `condPassed` and does nothing else. -/
def State.prologue (s : State) (cond : Cond) (body : State → Result) : Result :=
  let s1 := s.fetchCost
  if s1.conditionPassed cond then body s1 else .next { s1 with condPassed := false }

/-! ## Arithmetic -/

/-- A result with the carry and the overflow of the computation. -/
structure AluResult where
  value    : Word
  carry    : Bool
  overflow : Bool
  deriving DecidableEq, Repr

/-- `AddWithCarry(a, b, c)` (R13): the two unbounded sums, the truncated result and the two flags. -/
def addWithCarry (a b : Word) (c : Bool) : AluResult :=
  let usum : Nat := a.toNat + b.toNat + c.toNat
  let ssum : Int := a.toInt + b.toInt + (c.toNat : Int)
  let result : Word := BitVec.ofNat 32 usum
  { value := result, carry := decide (2 ^ 32 ≤ usum), overflow := decide (ssum ≠ result.toInt) }

/-- A logical result: its carry and overflow are not used (R212). -/
def logicalResult (v : Word) : AluResult := { value := v, carry := false, overflow := false }

/-- The operations whose flags are the adder's: SUB, RSB, ADD, ADC, SBC, RSC, CMP, CMN (R212). -/
def dpIsArithmetic : DpOp → Bool
  | .sub | .rsb | .add | .adc | .sbc | .rsc | .cmp | .cmn => true
  | .and | .eor | .tst | .teq | .orr | .mov | .bic | .mvn => false

/-- The four test operations, which write no register (R211). -/
def dpIsTest : DpOp → Bool
  | .tst | .teq | .cmp | .cmn => true
  | .and | .eor | .sub | .rsb | .add | .adc | .sbc | .rsc | .orr | .mov | .bic | .mvn => false

/-- `Compute` of each operation (R215 to R230), `c` the carry flag before the instruction. -/
def dpCompute (op : DpOp) (op1 op2 : Word) (c : Bool) : AluResult :=
  match op with
  | .and => logicalResult (op1 &&& op2)
  | .eor => logicalResult (op1 ^^^ op2)
  | .sub => addWithCarry op1 (~~~op2) true
  | .rsb => addWithCarry op2 (~~~op1) true
  | .add => addWithCarry op1 op2 false
  | .adc => addWithCarry op1 op2 c
  | .sbc => addWithCarry op1 (~~~op2) c
  | .rsc => addWithCarry op2 (~~~op1) c
  | .tst => logicalResult (op1 &&& op2)
  | .teq => logicalResult (op1 ^^^ op2)
  | .cmp => addWithCarry op1 (~~~op2) true
  | .cmn => addWithCarry op1 op2 false
  | .orr => logicalResult (op1 ||| op2)
  | .mov => logicalResult op2
  | .bic => logicalResult (op1 &&& ~~~op2)
  | .mvn => logicalResult (~~~op2)

/-! ## Writing the flags -/

/-- N and Z from a 32-bit result (R212, R251). -/
def State.setNZ (s : State) (result : Word) : State := { s with n := result.msb, z := result == 0#32 }

/-- N and Z from the 64-bit result of a long multiply (R251, R255). -/
def State.setNZ64 (s : State) (result : BitVec 64) : State := { s with n := result.msb, z := result == 0#64 }

/-- N, Z, C, V from an addition (R212, arithmetic). -/
def State.setFlagsArithmetic (s : State) (r : AluResult) : State :=
  { s.setNZ r.value with c := r.carry, v := r.overflow }

/-- N, Z from a logical result and C from the shifter; V unchanged (R212, logical). -/
def State.setFlagsLogical (s : State) (result : Word) (shifterCarry : Bool) : State :=
  { s.setNZ result with c := shifterCarry }

/-- `SetFlags` (R212). -/
def State.setFlags (s : State) (op : DpOp) (r : AluResult) (shifterCarry : Bool) : State :=
  if dpIsArithmetic op then s.setFlagsArithmetic r else s.setFlagsLogical r.value shifterCarry

end Sys2Proof.Machine
end

