-- ==== Sys2Proof/Machine/Operands.lean ====
section
/-!
DEFINITION. The operand and shifter unit (spec/41_condition_and_operand.md R185 to R195), every operand form of data
processing (R191 to R193, R214), the address forms of the single transfers (spec/45_arm_single_transfer.md R276, R284) and
of the block transfers (spec/46_arm_block_transfer.md R301), and the immediates (spec/30_encoding.md R118).
-/

namespace Sys2Proof.Machine

/-! ## The barrel shifter -/

/-- `(result, carry)` of the shifter (R185). -/
structure Shifted where
  value : Word
  carry : Bool
  deriving DecidableEq, Repr

/-- `LSL(v, n)` (R186). -/
def shiftLsl (v : Word) (n : Nat) (c : Bool) : Shifted :=
  if n = 0 then { value := v, carry := c }
  else if n ≤ 31 then { value := v <<< n, carry := v.getLsbD (32 - n) }
  else if n = 32 then { value := 0#32, carry := v.getLsbD 0 }
  else { value := 0#32, carry := false }

/-- `LSR(v, n)` (R187). -/
def shiftLsr (v : Word) (n : Nat) (c : Bool) : Shifted :=
  if n = 0 then { value := v, carry := c }
  else if n ≤ 31 then { value := v >>> n, carry := v.getLsbD (n - 1) }
  else if n = 32 then { value := 0#32, carry := v.getLsbD 31 }
  else { value := 0#32, carry := false }

/-- `ASR(v, n)` (R188). -/
def shiftAsr (v : Word) (n : Nat) (c : Bool) : Shifted :=
  if n = 0 then { value := v, carry := c }
  else if n ≤ 31 then { value := v.sshiftRight n, carry := v.getLsbD (n - 1) }
  else { value := if v.getLsbD 31 then 0xFFFFFFFF#32 else 0#32, carry := v.getLsbD 31 }

/-- `ROR(v, n)` (R189). -/
def shiftRor (v : Word) (n : Nat) (c : Bool) : Shifted :=
  if n = 0 then { value := v, carry := c }
  else if n % 32 = 0 then { value := v, carry := v.getLsbD 31 }
  else { value := (v >>> (n % 32)) ||| (v <<< (32 - n % 32)), carry := v.getLsbD (n % 32 - 1) }

/-- `RRX(v)` (R190). -/
def shiftRrx (v : Word) (c : Bool) : Shifted :=
  { value := bit1 c ++ v.extractLsb' 1 31, carry := v.getLsbD 0 }

/-- The shift of a type by an actual amount (R193). -/
def shiftBy (ty : ShiftType) (v : Word) (n : Nat) (c : Bool) : Shifted :=
  match ty with
  | .lsl => shiftLsl v n c
  | .lsr => shiftLsr v n c
  | .asr => shiftAsr v n c
  | .ror => shiftRor v n c

/-- The shift of a type by an encoded 5-bit amount: 0 means no shift for LSL, 32 for LSR and ASR, RRX for ROR (R192). -/
def shiftByImmediate (ty : ShiftType) (v : Word) (amount5 : BitVec 5) (c : Bool) : Shifted :=
  if amount5 = 0#5 then
    match ty with
    | .lsl => { value := v, carry := c }
    | .lsr => shiftLsr v 32 c
    | .asr => shiftAsr v 32 c
    | .ror => shiftRrx v c
  else shiftBy ty v amount5.toNat c

/-- `ROR(zext_8(imm8), 2*rot)`, a plain rotate (R117, R191). -/
def rotatedImmediate (rot : BitVec 4) (imm8 : Byte) : Word := (imm8.setWidth 32).rotateRight (2 * rot.toNat)

/-! ## Operand 2 -/

/-- The three forms of operand 2 (R117, R210). -/
inductive Operand2 where
  | imm (rot : BitVec 4) (imm8 : Byte)
  | regImm (rm : Reg) (ty : ShiftType) (amount5 : BitVec 5)
  | regReg (rm : Reg) (ty : ShiftType) (rs : Reg)
  deriving DecidableEq, Repr

/-- `regshift` of R211: the amount comes from a register. -/
def Operand2.isRegShift : Operand2 → Bool
  | .regReg _ _ _ => true
  | .imm _ _ | .regImm _ _ _ => false

/-- `Reg(i)` of R211: with a register-specified shift, register 15 reads 4 more (R214, R193). -/
def Operand2.readReg (form : Operand2) (s : State) (r : Reg) : Word :=
  if form.isRegShift && r == Reg.pc then s.pc + 4#32 else s.reg r

/-- The operand unit (R191 to R193): the value and the shifter carry. -/
def Operand2.eval (form : Operand2) (s : State) : Shifted :=
  match form with
  | .imm rot imm8 =>
    let value := rotatedImmediate rot imm8
    { value := value, carry := if rot = 0#4 then s.c else value.msb }
  | .regImm rm ty amount5 => shiftByImmediate ty (s.reg rm) amount5 s.c
  | .regReg rm ty rs =>
    shiftBy ty (form.readReg s rm) ((form.readReg s rs).extractLsb' 0 8).toNat s.c

/-- Operand 2 of ARM.DP.imm (R117). -/
def operandOfImm (f : DpImm) : Operand2 := .imm f.rot f.imm8

/-- Operand 2 of ARM.DP.regimm (R117). -/
def operandOfRegImm (f : DpRegImm) : Operand2 := .regImm f.rm f.ty f.amount5

/-- Operand 2 of ARM.DP.regreg (R117). -/
def operandOfRegReg (f : DpRegReg) : Operand2 := .regReg f.rm f.ty f.rs

/-! ## Addresses of the single transfers -/

/-- `(addr, offaddr, wback)` of R276 and R284. -/
structure TransferAddress where
  addr    : Word
  offaddr : Word
  wback   : Bool
  deriving DecidableEq, Repr

/-- What R276 and R284 do with a base and an offset. -/
def transferAddress (p u w : Bool) (base off : Word) : TransferAddress :=
  let offaddr := if u then base + off else base - off
  { addr := if p then offaddr else base, offaddr := offaddr, wback := !p || w }

/-- `Address_SDT` with the 12-bit immediate (R276). -/
def addressSdtImm (p : Bool) (f : SdtImm) (s : State) : TransferAddress :=
  transferAddress p f.u f.w (s.reg f.rn) (f.offset12.setWidth 32)

/-- `Address_SDT` with the shifted register, the carry discarded (R276, R194). -/
def addressSdtReg (p : Bool) (f : SdtReg) (s : State) : TransferAddress :=
  transferAddress p f.u f.w (s.reg f.rn) (shiftByImmediate f.ty (s.reg f.rm) f.amount5 s.c).value

/-- `Address_HDT` with the 8-bit immediate (R284). -/
def addressHdtImm (f : HdtImm) (s : State) : TransferAddress :=
  transferAddress f.p f.u f.w (s.reg f.rn) ((f.offHi ++ f.offLo).setWidth 32)

/-- `Address_HDT` with the register, not shifted (R284). -/
def addressHdtReg (f : HdtReg) (s : State) : TransferAddress :=
  transferAddress f.p f.u f.w (s.reg f.rn) (s.reg f.rm)

/-- An address that nothing is written back to: the 16-bit encoding's single transfers (R390). -/
def plainAddress (a : Word) : TransferAddress := { addr := a, offaddr := a, wback := false }

/-! ## Addresses of the block transfers -/

/-- The registers of a list, in ascending order (R300). -/
def registersOf (rlist : BitVec 16) : List Reg :=
  ((List.range 16).filter fun k => rlist.getLsbD k).map (BitVec.ofNat 4)

/-- `n`, the number of registers of a list (R301). -/
def registerCount (rlist : BitVec 16) : Nat := (registersOf rlist).length

/-- `4n` (R301). -/
def blockSize (rlist : BitVec 16) : Word := BitVec.ofNat 32 (4 * registerCount rlist)

/-- `start` of R301's table. -/
def blockStart (p u : Bool) (base : Word) (rlist : BitVec 16) : Word :=
  match u, p with
  | true, false => base
  | true, true => base + 4#32
  | false, false => base - blockSize rlist + 4#32
  | false, true => base - blockSize rlist

/-- `newbase` of R301's table. -/
def blockNewBase (u : Bool) (base : Word) (rlist : BitVec 16) : Word :=
  if u then base + blockSize rlist else base - blockSize rlist

/-! ## Branch offsets -/

/-- `sext_24(imm24) << 2` (R118). -/
def branchOffset24 (imm24 : BitVec 24) : Word := imm24.signExtend 32 <<< 2

/-- `sext_8(soffset8) << 1` (R135). -/
def branchOffset8 (soffset8 : BitVec 8) : Word := soffset8.signExtend 32 <<< 1

/-- `sext_11(offset11) << 1` (R137). -/
def branchOffset11 (offset11 : BitVec 11) : Word := offset11.signExtend 32 <<< 1

/-- `zext_8(word8) << 2` (R125, R130, R131). -/
def wordOffset8 (word8 : Byte) : Word := word8.setWidth 32 <<< 2

end Sys2Proof.Machine
end

