-- ==== Sys2Proof/Machine/Block.lean ====
section
/-!
DEFINITION. The block data transfers of the 32-bit encoding (spec/46_arm_block_transfer.md), and the transfers of a
register list that the 16-bit encoding shares with them (spec/49_thumb_memory_branch.md R414).
-/

namespace Sys2Proof.Machine

/-- The words a list of registers is loaded with, from consecutive ascending addresses, each aligned (R300, R302). -/
def State.blockData (s : State) (a : Word) : List Reg → List (Reg × Word)
  | [] => []
  | r :: rest => (r, s.memRead .word (alignWord a)) :: s.blockData (a + 4#32) rest

/-- The cost of `n` transfers: the first non-sequential, the others sequential (R503). -/
def State.blockCost (n : Nat) (a : Word) (seq : Bool) (s : State) : State :=
  match n with
  | 0 => s
  | n + 1 => (s.dataCost .word seq (alignWord a)).blockCost n (a + 4#32) true

/-- The stores of a list of words to consecutive ascending addresses, each aligned (R300, R302). -/
def State.blockStore (vs : List Word) (a : Word) (s : State) : State :=
  match vs with
  | [] => s
  | v :: rest => (s.memWrite .word (alignWord a) v).blockStore rest (a + 4#32)

/-- One register write of a block load, register 15 left out; `userbank` sends it to the user bank (R303, R308). -/
def State.writeLoadedOne (s : State) (userbank : Bool) (d : Reg × Word) : State :=
  if d.1 = Reg.pc then s else if userbank then s.setUserReg d.1 d.2 else s.setReg d.1 d.2

/-- The register writes of a block load, register 15 left out; `userbank` sends them to the user bank (R303, R308). -/
def State.writeLoaded (data : List (Reg × Word)) (userbank : Bool) (s : State) : State :=
  match data with
  | [] => s
  | d :: rest => (s.writeLoadedOne userbank d).writeLoaded rest userbank

/-- `data[15]` of R303. -/
def loadedPc (data : List (Reg × Word)) : Word := (data.lookup Reg.pc).getD 0#32

/-- LDM after its prologue (R303). The empty list is looked at before the saved-status test (R449). -/
def loadMultiple (f : BdtForm) (s : State) : Result :=
  if f.rlist = 0#16 then .refused .emptyRegisterList
  else
    let restore := f.s && f.rlist.getLsbD 15
    let userbank := f.s && !f.rlist.getLsbD 15
    if restore && !s.mode.hasSpsr then .fault (.invariantViolation .noSpsr s)
    else
      let base := s.reg f.rn
      let start := blockStart f.p f.u base f.rlist
      let data := s.blockData start (registersOf f.rlist)
      let s1 := s.blockCost (registerCount f.rlist) start false
      let s2 := if f.w then s1.setReg f.rn (blockNewBase f.u base f.rlist) else s1
      let s3 := s2.writeLoaded data userbank
      if restore then Result.andThen (s3.returnFromException (loadedPc data)) fun s4 => .next s4.internalCycle
      else if f.rlist.getLsbD 15 then .next (s3.setPc (loadedPc data)).internalCycle
      else .next s3.internalCycle

/-- The word STM stores for a register (R304 to R306, R308); `first` says that it is the lowest of the list. -/
def storedWord (f : BdtForm) (s : State) (newbase : Word) (first : Bool) (r : Reg) : Word :=
  if r = f.rn && f.w && !first then newbase
  else if r = Reg.pc then s.storedReg r
  else if f.s then s.userReg r
  else s.reg r

/-- The words STM stores, in ascending order of their registers (R304). All are read before the first store: no store
changes a register (log 21). -/
def storedWords (f : BdtForm) (s : State) (newbase : Word) : List Word :=
  match registersOf f.rlist with
  | [] => []
  | r :: rest => storedWord f s newbase true r :: rest.map (storedWord f s newbase false)

/-- STM after its prologue (R304). -/
def storeMultiple (f : BdtForm) (s : State) : Result :=
  if f.rlist = 0#16 then .refused .emptyRegisterList
  else
    let base := s.reg f.rn
    let start := blockStart f.p f.u base f.rlist
    let newbase := blockNewBase f.u base f.rlist
    let s1 := (s.blockStore (storedWords f s newbase) start).blockCost (registerCount f.rlist) start false
    .next (if f.w then s1.setReg f.rn newbase else s1)

/-- Row LDM: R303. -/
def execLdm (f : BdtForm) (s : State) : Result :=
  s.prologue f.cond fun s => loadMultiple f s

/-- Row STM: R304. -/
def execStm (f : BdtForm) (s : State) : Result :=
  s.prologue f.cond fun s => storeMultiple f s

end Sys2Proof.Machine
end

