-- ==== Sys2Proof/Machine/Branch.lean ====
section
/-!
DEFINITION. The branch instructions of the 32-bit encoding (spec/44_arm_branch.md), and the branch and exchange that
both encodings share (R268, R374).
-/

namespace Sys2Proof.Machine

/-- `T <- v[0]`; `pc <- v` (R268, R374). -/
def State.branchExchange (s : State) (v : Word) : State := { s with t := v.getLsbD 0 }.setPc v

/-- Row BX: R268. -/
def execBx (f : BxForm) (s : State) : Result :=
  s.prologue f.cond fun s => .next (s.branchExchange (s.reg f.rm))

/-- Row B: R266. -/
def execB (f : BranchForm) (s : State) : Result :=
  s.prologue f.cond fun s => .next (s.setPc (s.pc + branchOffset24 f.imm24))

/-- Row BL: R267. -/
def execBl (f : BranchForm) (s : State) : Result :=
  s.prologue f.cond fun s =>
    .next ((s.setReg Reg.lr (s.pc - 4#32)).setPc (s.pc + branchOffset24 f.imm24))

end Sys2Proof.Machine
end

