-- ==== Sys2Proof/Machine/DataProcessing.lean ====
section
/-!
DEFINITION. The data-processing instructions of the 32-bit encoding (spec/42_arm_data_processing.md): the common
operation of R211, then one meaning per row.
-/

namespace Sys2Proof.Machine

/-- `DataProcessing` of R211 after its prologue. All operand reads come before any write. -/
def dataProcessingBody (op : DpOp) (setS : Bool) (rn rd : Reg) (form : Operand2) (s : State) : Result :=
  let s1 := if form.isRegShift then s.internalCycle else s
  let op2 := form.eval s1
  let r := dpCompute op (form.readReg s1 rn) op2.value s1.c
  if dpIsTest op then .next (s1.setFlags op r op2.carry)
  else if rd = Reg.pc then
    if setS then s1.returnFromException r.value else .next (s1.setPc r.value)
  else
    let s2 := s1.setReg rd r.value
    .next (if setS then s2.setFlags op r op2.carry else s2)

/-- `DataProcessing` (R211). -/
def dataProcessing (op : DpOp) (cond : Cond) (setS : Bool) (rn rd : Reg) (form : Operand2) (s : State) : Result :=
  s.prologue cond (dataProcessingBody op setS rn rd form)

/-- Row AND.imm: R215 over R211. -/
def execAndImm (f : DpImm) (s : State) : Result :=
  dataProcessing .and f.cond f.s f.rn f.rd (operandOfImm f) s

/-- Row AND.regimm: R215 over R211. -/
def execAndRegImm (f : DpRegImm) (s : State) : Result :=
  dataProcessing .and f.cond f.s f.rn f.rd (operandOfRegImm f) s

/-- Row AND.regreg: R215 over R211. -/
def execAndRegReg (f : DpRegReg) (s : State) : Result :=
  dataProcessing .and f.cond f.s f.rn f.rd (operandOfRegReg f) s

/-- Row EOR.imm: R216 over R211. -/
def execEorImm (f : DpImm) (s : State) : Result :=
  dataProcessing .eor f.cond f.s f.rn f.rd (operandOfImm f) s

/-- Row EOR.regimm: R216 over R211. -/
def execEorRegImm (f : DpRegImm) (s : State) : Result :=
  dataProcessing .eor f.cond f.s f.rn f.rd (operandOfRegImm f) s

/-- Row EOR.regreg: R216 over R211. -/
def execEorRegReg (f : DpRegReg) (s : State) : Result :=
  dataProcessing .eor f.cond f.s f.rn f.rd (operandOfRegReg f) s

/-- Row SUB.imm: R217 over R211. -/
def execSubImm (f : DpImm) (s : State) : Result :=
  dataProcessing .sub f.cond f.s f.rn f.rd (operandOfImm f) s

/-- Row SUB.regimm: R217 over R211. -/
def execSubRegImm (f : DpRegImm) (s : State) : Result :=
  dataProcessing .sub f.cond f.s f.rn f.rd (operandOfRegImm f) s

/-- Row SUB.regreg: R217 over R211. -/
def execSubRegReg (f : DpRegReg) (s : State) : Result :=
  dataProcessing .sub f.cond f.s f.rn f.rd (operandOfRegReg f) s

/-- Row RSB.imm: R218 over R211. -/
def execRsbImm (f : DpImm) (s : State) : Result :=
  dataProcessing .rsb f.cond f.s f.rn f.rd (operandOfImm f) s

/-- Row RSB.regimm: R218 over R211. -/
def execRsbRegImm (f : DpRegImm) (s : State) : Result :=
  dataProcessing .rsb f.cond f.s f.rn f.rd (operandOfRegImm f) s

/-- Row RSB.regreg: R218 over R211. -/
def execRsbRegReg (f : DpRegReg) (s : State) : Result :=
  dataProcessing .rsb f.cond f.s f.rn f.rd (operandOfRegReg f) s

/-- Row ADD.imm: R219 over R211. -/
def execAddImm (f : DpImm) (s : State) : Result :=
  dataProcessing .add f.cond f.s f.rn f.rd (operandOfImm f) s

/-- Row ADD.regimm: R219 over R211. -/
def execAddRegImm (f : DpRegImm) (s : State) : Result :=
  dataProcessing .add f.cond f.s f.rn f.rd (operandOfRegImm f) s

/-- Row ADD.regreg: R219 over R211. -/
def execAddRegReg (f : DpRegReg) (s : State) : Result :=
  dataProcessing .add f.cond f.s f.rn f.rd (operandOfRegReg f) s

/-- Row ADC.imm: R220 over R211. -/
def execAdcImm (f : DpImm) (s : State) : Result :=
  dataProcessing .adc f.cond f.s f.rn f.rd (operandOfImm f) s

/-- Row ADC.regimm: R220 over R211. -/
def execAdcRegImm (f : DpRegImm) (s : State) : Result :=
  dataProcessing .adc f.cond f.s f.rn f.rd (operandOfRegImm f) s

/-- Row ADC.regreg: R220 over R211. -/
def execAdcRegReg (f : DpRegReg) (s : State) : Result :=
  dataProcessing .adc f.cond f.s f.rn f.rd (operandOfRegReg f) s

/-- Row SBC.imm: R221 over R211. -/
def execSbcImm (f : DpImm) (s : State) : Result :=
  dataProcessing .sbc f.cond f.s f.rn f.rd (operandOfImm f) s

/-- Row SBC.regimm: R221 over R211. -/
def execSbcRegImm (f : DpRegImm) (s : State) : Result :=
  dataProcessing .sbc f.cond f.s f.rn f.rd (operandOfRegImm f) s

/-- Row SBC.regreg: R221 over R211. -/
def execSbcRegReg (f : DpRegReg) (s : State) : Result :=
  dataProcessing .sbc f.cond f.s f.rn f.rd (operandOfRegReg f) s

/-- Row RSC.imm: R222 over R211. -/
def execRscImm (f : DpImm) (s : State) : Result :=
  dataProcessing .rsc f.cond f.s f.rn f.rd (operandOfImm f) s

/-- Row RSC.regimm: R222 over R211. -/
def execRscRegImm (f : DpRegImm) (s : State) : Result :=
  dataProcessing .rsc f.cond f.s f.rn f.rd (operandOfRegImm f) s

/-- Row RSC.regreg: R222 over R211. -/
def execRscRegReg (f : DpRegReg) (s : State) : Result :=
  dataProcessing .rsc f.cond f.s f.rn f.rd (operandOfRegReg f) s

/-- Row TST.imm: R223 over R211. -/
def execTstImm (f : DpImm) (s : State) : Result :=
  dataProcessing .tst f.cond f.s f.rn f.rd (operandOfImm f) s

/-- Row TST.regimm: R223 over R211. -/
def execTstRegImm (f : DpRegImm) (s : State) : Result :=
  dataProcessing .tst f.cond f.s f.rn f.rd (operandOfRegImm f) s

/-- Row TST.regreg: R223 over R211. -/
def execTstRegReg (f : DpRegReg) (s : State) : Result :=
  dataProcessing .tst f.cond f.s f.rn f.rd (operandOfRegReg f) s

/-- Row TEQ.imm: R224 over R211. -/
def execTeqImm (f : DpImm) (s : State) : Result :=
  dataProcessing .teq f.cond f.s f.rn f.rd (operandOfImm f) s

/-- Row TEQ.regimm: R224 over R211. -/
def execTeqRegImm (f : DpRegImm) (s : State) : Result :=
  dataProcessing .teq f.cond f.s f.rn f.rd (operandOfRegImm f) s

/-- Row TEQ.regreg: R224 over R211. -/
def execTeqRegReg (f : DpRegReg) (s : State) : Result :=
  dataProcessing .teq f.cond f.s f.rn f.rd (operandOfRegReg f) s

/-- Row CMP.imm: R225 over R211. -/
def execCmpImm (f : DpImm) (s : State) : Result :=
  dataProcessing .cmp f.cond f.s f.rn f.rd (operandOfImm f) s

/-- Row CMP.regimm: R225 over R211. -/
def execCmpRegImm (f : DpRegImm) (s : State) : Result :=
  dataProcessing .cmp f.cond f.s f.rn f.rd (operandOfRegImm f) s

/-- Row CMP.regreg: R225 over R211. -/
def execCmpRegReg (f : DpRegReg) (s : State) : Result :=
  dataProcessing .cmp f.cond f.s f.rn f.rd (operandOfRegReg f) s

/-- Row CMN.imm: R226 over R211. -/
def execCmnImm (f : DpImm) (s : State) : Result :=
  dataProcessing .cmn f.cond f.s f.rn f.rd (operandOfImm f) s

/-- Row CMN.regimm: R226 over R211. -/
def execCmnRegImm (f : DpRegImm) (s : State) : Result :=
  dataProcessing .cmn f.cond f.s f.rn f.rd (operandOfRegImm f) s

/-- Row CMN.regreg: R226 over R211. -/
def execCmnRegReg (f : DpRegReg) (s : State) : Result :=
  dataProcessing .cmn f.cond f.s f.rn f.rd (operandOfRegReg f) s

/-- Row ORR.imm: R227 over R211. -/
def execOrrImm (f : DpImm) (s : State) : Result :=
  dataProcessing .orr f.cond f.s f.rn f.rd (operandOfImm f) s

/-- Row ORR.regimm: R227 over R211. -/
def execOrrRegImm (f : DpRegImm) (s : State) : Result :=
  dataProcessing .orr f.cond f.s f.rn f.rd (operandOfRegImm f) s

/-- Row ORR.regreg: R227 over R211. -/
def execOrrRegReg (f : DpRegReg) (s : State) : Result :=
  dataProcessing .orr f.cond f.s f.rn f.rd (operandOfRegReg f) s

/-- Row MOV.imm: R228 over R211. -/
def execMovImm (f : DpImm) (s : State) : Result :=
  dataProcessing .mov f.cond f.s f.rn f.rd (operandOfImm f) s

/-- Row MOV.regimm: R228 over R211. -/
def execMovRegImm (f : DpRegImm) (s : State) : Result :=
  dataProcessing .mov f.cond f.s f.rn f.rd (operandOfRegImm f) s

/-- Row MOV.regreg: R228 over R211. -/
def execMovRegReg (f : DpRegReg) (s : State) : Result :=
  dataProcessing .mov f.cond f.s f.rn f.rd (operandOfRegReg f) s

/-- Row BIC.imm: R229 over R211. -/
def execBicImm (f : DpImm) (s : State) : Result :=
  dataProcessing .bic f.cond f.s f.rn f.rd (operandOfImm f) s

/-- Row BIC.regimm: R229 over R211. -/
def execBicRegImm (f : DpRegImm) (s : State) : Result :=
  dataProcessing .bic f.cond f.s f.rn f.rd (operandOfRegImm f) s

/-- Row BIC.regreg: R229 over R211. -/
def execBicRegReg (f : DpRegReg) (s : State) : Result :=
  dataProcessing .bic f.cond f.s f.rn f.rd (operandOfRegReg f) s

/-- Row MVN.imm: R230 over R211. -/
def execMvnImm (f : DpImm) (s : State) : Result :=
  dataProcessing .mvn f.cond f.s f.rn f.rd (operandOfImm f) s

/-- Row MVN.regimm: R230 over R211. -/
def execMvnRegImm (f : DpRegImm) (s : State) : Result :=
  dataProcessing .mvn f.cond f.s f.rn f.rd (operandOfRegImm f) s

/-- Row MVN.regreg: R230 over R211. -/
def execMvnRegReg (f : DpRegReg) (s : State) : Result :=
  dataProcessing .mvn f.cond f.s f.rn f.rd (operandOfRegReg f) s

end Sys2Proof.Machine
end

