-- ==== Sys2Proof/Machine/Multiply.lean ====
section
/-!
DEFINITION. The multiply instructions of the 32-bit encoding (spec/43_arm_multiply.md).
-/

namespace Sys2Proof.Machine

/-- MUL and, with `acc`, MLA (R250 to R254, R506): reads before writes; C and V unchanged. -/
def multiply (acc : Bool) (f : MulForm) (s : State) : Result :=
  s.prologue f.cond fun s =>
    let product := s.reg f.rm * s.reg f.rs
    let result := if acc then product + s.reg f.rn else product
    let m := multiplierCyclesSigned (s.reg f.rs)
    let s1 := (s.internalCycles (if acc then m + 1 else m)).setReg f.rd result
    .next (if f.s then s1.setNZ result else s1)

/-- The 64-bit product of two unsigned words (R255). -/
def unsignedProduct (a b : Word) : BitVec 64 := a.setWidth 64 * b.setWidth 64

/-- The 64-bit product of two signed words, modulo 2^64 (R257). -/
def signedProduct (a b : Word) : BitVec 64 := a.signExtend 64 * b.signExtend 64

/-- The long multiplies (R250, R251, R255 to R258, R506): `RdLo` is written before `RdHi`. -/
def multiplyLong (product : Word → Word → BitVec 64) (cycles : Word → Nat) (acc : Bool) (f : MulLong) (s : State) :
    Result :=
  s.prologue f.cond fun s =>
    let p := product (s.reg f.rm) (s.reg f.rs)
    let result := if acc then p + (s.reg f.rdHi ++ s.reg f.rdLo) else p
    let m := cycles (s.reg f.rs)
    let s1 := s.internalCycles (if acc then m + 2 else m + 1)
    let s2 := (s1.setReg f.rdLo (result.extractLsb' 0 32)).setReg f.rdHi (result.extractLsb' 32 32)
    .next (if f.s then s2.setNZ64 result else s2)

/-- Row MUL: R253. -/
def execMul (f : MulForm) (s : State) : Result :=
  multiply false f s

/-- Row MLA: R254. -/
def execMla (f : MulForm) (s : State) : Result :=
  multiply true f s

/-- Row UMULL: R255. -/
def execUmull (f : MulLong) (s : State) : Result :=
  multiplyLong unsignedProduct multiplierCyclesUnsigned false f s

/-- Row UMLAL: R256. -/
def execUmlal (f : MulLong) (s : State) : Result :=
  multiplyLong unsignedProduct multiplierCyclesUnsigned true f s

/-- Row SMULL: R257. -/
def execSmull (f : MulLong) (s : State) : Result :=
  multiplyLong signedProduct multiplierCyclesSigned false f s

/-- Row SMLAL: R258. -/
def execSmlal (f : MulLong) (s : State) : Result :=
  multiplyLong signedProduct multiplierCyclesSigned true f s

end Sys2Proof.Machine
end

