-- ==== Sys2Proof/Machine/System.lean ====
section
/-!
DEFINITION. Status transfer, software interrupt and the coprocessor instructions of the 32-bit encoding
(spec/47_arm_system.md).
-/

namespace Sys2Proof.Machine

/-- MRS after its prologue (R315). -/
def moveFromStatus (f : MrsForm) (s : State) : Result :=
  if f.r then
    if s.mode.hasSpsr then .next (s.setReg f.rd s.spsr) else .fault (.invariantViolation .noSpsr s)
  else .next (s.setReg f.rd s.packStatus)

/-- The control field of MSR to the current status (R318, R320): ignored in User mode; `T` is never written. -/
def State.writeControl (s : State) (mask : FieldMask) (op : Word) : Option State :=
  if mask.c && s.mode != .usr then
    (s.switchMode (op.extractLsb' 0 5)).map fun s1 => { s1 with i := op.getLsbD 7, f := op.getLsbD 6 }
  else some s

/-- The flags field of MSR to the current status (R318). -/
def State.writeFlagsField (s : State) (mask : FieldMask) (op : Word) : State :=
  if mask.f then
    { s with n := op.getLsbD 31, z := op.getLsbD 30, c := op.getLsbD 29, v := op.getLsbD 28 }
  else s

/-- The bits of the saved status that MSR writes (R319). -/
def savedStatusMask (mask : FieldMask) : Word :=
  (if mask.f then 0xF0000000#32 else 0#32) ||| (if mask.c then 0x000000FF#32 else 0#32)

/-- MSR after its prologue (R317 to R320); `r` selects the saved status. -/
def moveToStatus (r : Bool) (mask : FieldMask) (op : Word) (s : State) : Result :=
  if r then
    if s.mode.hasSpsr then
      let m := savedStatusMask mask
      .next { s with spsr := (s.spsr &&& ~~~m) ||| (op &&& m) }
    else .fault (.invariantViolation .noSpsr s)
  else
    match s.writeControl mask op with
    | some s1 => .next (s1.writeFlagsField mask op)
    | none => .fault (.invariantViolation .badMode s)

/-- Row MRS: R315. -/
def execMrs (f : MrsForm) (s : State) : Result :=
  s.prologue f.cond fun s => moveFromStatus f s

/-- Row MSR.reg: R317, R318, R319. -/
def execMsrReg (f : MsrReg) (s : State) : Result :=
  s.prologue f.cond fun s => moveToStatus f.r f.mask (s.reg f.rm) s

/-- Row MSR.imm: R317, R318, R319. -/
def execMsrImm (f : MsrImm) (s : State) : Result :=
  s.prologue f.cond fun s => moveToStatus f.r f.mask (rotatedImmediate f.rot f.imm8) s

/-- Row STC: R327, R324. -/
def execStc (f : CdtForm) (s : State) : Result :=
  s.prologue f.cond fun s => .next (s.logUnimplemented (encode (.stc f)).word)

/-- Row LDC: R326, R324. -/
def execLdc (f : CdtForm) (s : State) : Result :=
  s.prologue f.cond fun s => .next (s.logUnimplemented (encode (.ldc f)).word)

/-- Row CDP: R325, R324. -/
def execCdp (f : CdoForm) (s : State) : Result :=
  s.prologue f.cond fun s => .next (s.logUnimplemented (encode (.cdp f)).word)

/-- Row MCR: R328, R324. -/
def execMcr (f : CrtForm) (s : State) : Result :=
  s.prologue f.cond fun s => .next (s.logUnimplemented (encode (.mcr f)).word)

/-- Row MRC: R329, R324. -/
def execMrc (f : CrtForm) (s : State) : Result :=
  s.prologue f.cond fun s => .next (s.logUnimplemented (encode (.mrc f)).word)

/-- Row SWI: R322. -/
def execSwi (f : SwiForm) (s : State) : Result :=
  s.prologue f.cond fun s => .next s.softwareInterruptEntry

end Sys2Proof.Machine
end

