-- ==== Sys2Proof/Machine/ThumbAlu.lean ====
section
/-!
DEFINITION. The arithmetic, logic and register instructions of the 16-bit encoding, formats 1 to 5, 12 and 13
(spec/48_thumb_alu.md). None has a condition: the prologue is the fetch cost alone (R335).
-/

namespace Sys2Proof.Machine

/-- An arithmetic result written with its four flags (R335, R212). -/
def State.writeArithmetic (s : State) (rd : Reg) (r : AluResult) : State := (s.setReg rd r.value).setFlagsArithmetic r

/-- A logical result written with N and Z; C and V unchanged (R335, R345, R350). -/
def State.writeLogical (s : State) (rd : Reg) (v : Word) : State := (s.setReg rd v).setNZ v

/-- A shifter result written with N, Z and the shifter's carry; V unchanged (R335, R336). -/
def State.writeShifted (s : State) (rd : Reg) (sh : Shifted) : State :=
  (s.setReg rd sh.value).setFlagsLogical sh.value sh.carry

/-- Row T.LSL.imm: R336. -/
def execTLslImm (f : TShift) (s : State) : Result :=
  let s := s.fetchCost
  .next (s.writeShifted f.rd (shiftByImmediate .lsl (s.reg f.rs) f.offset5 s.c))

/-- Row T.LSR.imm: R337. -/
def execTLsrImm (f : TShift) (s : State) : Result :=
  let s := s.fetchCost
  .next (s.writeShifted f.rd (shiftByImmediate .lsr (s.reg f.rs) f.offset5 s.c))

/-- Row T.ASR.imm: R338. -/
def execTAsrImm (f : TShift) (s : State) : Result :=
  let s := s.fetchCost
  .next (s.writeShifted f.rd (shiftByImmediate .asr (s.reg f.rs) f.offset5 s.c))

/-- Row T.ADD.reg: R340. -/
def execTAddReg (f : TAddSubReg) (s : State) : Result :=
  let s := s.fetchCost
  .next (s.writeArithmetic f.rd (addWithCarry (s.reg f.rs) (s.reg f.rn) false))

/-- Row T.SUB.reg: R341. -/
def execTSubReg (f : TAddSubReg) (s : State) : Result :=
  let s := s.fetchCost
  .next (s.writeArithmetic f.rd (addWithCarry (s.reg f.rs) (~~~s.reg f.rn) true))

/-- Row T.ADD.imm3: R342. -/
def execTAddImm3 (f : TAddSubImm) (s : State) : Result :=
  let s := s.fetchCost
  .next (s.writeArithmetic f.rd (addWithCarry (s.reg f.rs) (f.offset3.setWidth 32) false))

/-- Row T.SUB.imm3: R343. -/
def execTSubImm3 (f : TAddSubImm) (s : State) : Result :=
  let s := s.fetchCost
  .next (s.writeArithmetic f.rd (addWithCarry (s.reg f.rs) (~~~f.offset3.setWidth 32) true))

/-- Row T.MOV.imm8: R345. -/
def execTMovImm8 (f : TImm8) (s : State) : Result :=
  let s := s.fetchCost
  .next (s.writeLogical f.rd (f.offset8.setWidth 32))

/-- Row T.CMP.imm8: R346. -/
def execTCmpImm8 (f : TImm8) (s : State) : Result :=
  let s := s.fetchCost
  .next (s.setFlagsArithmetic (addWithCarry (s.reg f.rd) (~~~f.offset8.setWidth 32) true))

/-- Row T.ADD.imm8: R347. -/
def execTAddImm8 (f : TImm8) (s : State) : Result :=
  let s := s.fetchCost
  .next (s.writeArithmetic f.rd (addWithCarry (s.reg f.rd) (f.offset8.setWidth 32) false))

/-- Row T.SUB.imm8: R348. -/
def execTSubImm8 (f : TImm8) (s : State) : Result :=
  let s := s.fetchCost
  .next (s.writeArithmetic f.rd (addWithCarry (s.reg f.rd) (~~~f.offset8.setWidth 32) true))

/-- Row T.AND: R350. -/
def execTAnd (f : TAlu) (s : State) : Result :=
  let s := s.fetchCost
  .next (s.writeLogical f.rd (s.reg f.rd &&& s.reg f.rs))

/-- Row T.EOR: R351. -/
def execTEor (f : TAlu) (s : State) : Result :=
  let s := s.fetchCost
  .next (s.writeLogical f.rd (s.reg f.rd ^^^ s.reg f.rs))

/-- Row T.LSL.reg: R352. -/
def execTLslReg (f : TAlu) (s : State) : Result :=
  let s := s.fetchCost
  .next ((s.writeShifted f.rd (shiftBy .lsl (s.reg f.rd) ((s.reg f.rs).extractLsb' 0 8).toNat s.c)).internalCycle)

/-- Row T.LSR.reg: R353. -/
def execTLsrReg (f : TAlu) (s : State) : Result :=
  let s := s.fetchCost
  .next ((s.writeShifted f.rd (shiftBy .lsr (s.reg f.rd) ((s.reg f.rs).extractLsb' 0 8).toNat s.c)).internalCycle)

/-- Row T.ASR.reg: R354. -/
def execTAsrReg (f : TAlu) (s : State) : Result :=
  let s := s.fetchCost
  .next ((s.writeShifted f.rd (shiftBy .asr (s.reg f.rd) ((s.reg f.rs).extractLsb' 0 8).toNat s.c)).internalCycle)

/-- Row T.ADC: R355. -/
def execTAdc (f : TAlu) (s : State) : Result :=
  let s := s.fetchCost
  .next (s.writeArithmetic f.rd (addWithCarry (s.reg f.rd) (s.reg f.rs) s.c))

/-- Row T.SBC: R356. -/
def execTSbc (f : TAlu) (s : State) : Result :=
  let s := s.fetchCost
  .next (s.writeArithmetic f.rd (addWithCarry (s.reg f.rd) (~~~s.reg f.rs) s.c))

/-- Row T.ROR: R357. -/
def execTRor (f : TAlu) (s : State) : Result :=
  let s := s.fetchCost
  .next ((s.writeShifted f.rd (shiftBy .ror (s.reg f.rd) ((s.reg f.rs).extractLsb' 0 8).toNat s.c)).internalCycle)

/-- Row T.TST: R358. -/
def execTTst (f : TAlu) (s : State) : Result :=
  let s := s.fetchCost
  .next (s.setNZ (s.reg f.rd &&& s.reg f.rs))

/-- Row T.NEG: R359. -/
def execTNeg (f : TAlu) (s : State) : Result :=
  let s := s.fetchCost
  .next (s.writeArithmetic f.rd (addWithCarry 0#32 (~~~s.reg f.rs) true))

/-- Row T.CMP.reg: R360. -/
def execTCmpReg (f : TAlu) (s : State) : Result :=
  let s := s.fetchCost
  .next (s.setFlagsArithmetic (addWithCarry (s.reg f.rd) (~~~s.reg f.rs) true))

/-- Row T.CMN: R361. -/
def execTCmn (f : TAlu) (s : State) : Result :=
  let s := s.fetchCost
  .next (s.setFlagsArithmetic (addWithCarry (s.reg f.rd) (s.reg f.rs) false))

/-- Row T.ORR: R362. -/
def execTOrr (f : TAlu) (s : State) : Result :=
  let s := s.fetchCost
  .next (s.writeLogical f.rd (s.reg f.rd ||| s.reg f.rs))

/-- Row T.MUL: R363. -/
def execTMul (f : TAlu) (s : State) : Result :=
  let s := s.fetchCost
  .next ((s.writeLogical f.rd (s.reg f.rd * s.reg f.rs)).internalCycles (multiplierCyclesSigned (s.reg f.rd)))

/-- Row T.BIC: R364. -/
def execTBic (f : TAlu) (s : State) : Result :=
  let s := s.fetchCost
  .next (s.writeLogical f.rd (s.reg f.rd &&& ~~~s.reg f.rs))

/-- Row T.MVN: R365. -/
def execTMvn (f : TAlu) (s : State) : Result :=
  let s := s.fetchCost
  .next (s.writeLogical f.rd (~~~s.reg f.rs))

/-- Row T.ADD.hi: R371. -/
def execTAddHi (f : THigh) (s : State) : Result :=
  let s := s.fetchCost
  .next (s.setReg f.rd (s.reg f.rd + s.reg f.rs))

/-- Row T.CMP.hi: R372. -/
def execTCmpHi (f : THigh) (s : State) : Result :=
  let s := s.fetchCost
  .next (s.setFlagsArithmetic (addWithCarry (s.reg f.rd) (~~~s.reg f.rs) true))

/-- Row T.MOV.hi: R373. -/
def execTMovHi (f : THigh) (s : State) : Result :=
  let s := s.fetchCost
  .next (s.setReg f.rd (s.reg f.rs))

/-- Row T.BX: R374. -/
def execTBx (f : TBxForm) (s : State) : Result :=
  let s := s.fetchCost
  .next (s.branchExchange (s.reg f.rs))

/-- Row T.ADD.pc: R376. -/
def execTAddPc (f : TRdWord8) (s : State) : Result :=
  let s := s.fetchCost
  .next (s.setReg f.rd (alignWord s.pc + wordOffset8 f.word8))

/-- Row T.ADD.sp: R377. -/
def execTAddSp (f : TRdWord8) (s : State) : Result :=
  let s := s.fetchCost
  .next (s.setReg f.rd (s.reg Reg.sp + wordOffset8 f.word8))

/-- Row T.ADDSP: R378. -/
def execTAddSpImm7 (sword7 : BitVec 7) (s : State) : Result :=
  let s := s.fetchCost
  .next (s.setReg Reg.sp (s.reg Reg.sp + sword7.setWidth 32 <<< 2))

/-- Row T.SUBSP: R379. -/
def execTSubSpImm7 (sword7 : BitVec 7) (s : State) : Result :=
  let s := s.fetchCost
  .next (s.setReg Reg.sp (s.reg Reg.sp - sword7.setWidth 32 <<< 2))

end Sys2Proof.Machine
end

