-- ==== Sys2Proof/Machine/ThumbBranch.lean ====
section
/-!
DEFINITION. The branches and the software interrupt of the 16-bit encoding, formats 16 to 19
(spec/49_thumb_memory_branch.md R422 to R432).
-/

namespace Sys2Proof.Machine

/-- Row T.BEQ: R422. -/
def execTBeq (soffset8 : BitVec 8) (s : State) : Result :=
  s.prologue .eq fun s => .next (s.setPc (s.pc + branchOffset8 soffset8))

/-- Row T.BNE: R422. -/
def execTBne (soffset8 : BitVec 8) (s : State) : Result :=
  s.prologue .ne fun s => .next (s.setPc (s.pc + branchOffset8 soffset8))

/-- Row T.BCS: R422. -/
def execTBcs (soffset8 : BitVec 8) (s : State) : Result :=
  s.prologue .cs fun s => .next (s.setPc (s.pc + branchOffset8 soffset8))

/-- Row T.BCC: R422. -/
def execTBcc (soffset8 : BitVec 8) (s : State) : Result :=
  s.prologue .cc fun s => .next (s.setPc (s.pc + branchOffset8 soffset8))

/-- Row T.BMI: R422. -/
def execTBmi (soffset8 : BitVec 8) (s : State) : Result :=
  s.prologue .mi fun s => .next (s.setPc (s.pc + branchOffset8 soffset8))

/-- Row T.BPL: R422. -/
def execTBpl (soffset8 : BitVec 8) (s : State) : Result :=
  s.prologue .pl fun s => .next (s.setPc (s.pc + branchOffset8 soffset8))

/-- Row T.BVS: R422. -/
def execTBvs (soffset8 : BitVec 8) (s : State) : Result :=
  s.prologue .vs fun s => .next (s.setPc (s.pc + branchOffset8 soffset8))

/-- Row T.BVC: R422. -/
def execTBvc (soffset8 : BitVec 8) (s : State) : Result :=
  s.prologue .vc fun s => .next (s.setPc (s.pc + branchOffset8 soffset8))

/-- Row T.BHI: R422. -/
def execTBhi (soffset8 : BitVec 8) (s : State) : Result :=
  s.prologue .hi fun s => .next (s.setPc (s.pc + branchOffset8 soffset8))

/-- Row T.BLS: R422. -/
def execTBls (soffset8 : BitVec 8) (s : State) : Result :=
  s.prologue .ls fun s => .next (s.setPc (s.pc + branchOffset8 soffset8))

/-- Row T.BGE: R422. -/
def execTBge (soffset8 : BitVec 8) (s : State) : Result :=
  s.prologue .ge fun s => .next (s.setPc (s.pc + branchOffset8 soffset8))

/-- Row T.BLT: R422. -/
def execTBlt (soffset8 : BitVec 8) (s : State) : Result :=
  s.prologue .lt fun s => .next (s.setPc (s.pc + branchOffset8 soffset8))

/-- Row T.BGT: R422. -/
def execTBgt (soffset8 : BitVec 8) (s : State) : Result :=
  s.prologue .gt fun s => .next (s.setPc (s.pc + branchOffset8 soffset8))

/-- Row T.BLE: R422. -/
def execTBle (soffset8 : BitVec 8) (s : State) : Result :=
  s.prologue .le fun s => .next (s.setPc (s.pc + branchOffset8 soffset8))

/-- Row T.SWI: R424. -/
def execTSwi (_value8 : BitVec 8) (s : State) : Result :=
  .next s.fetchCost.softwareInterruptEntry

/-- Row T.B: R426. -/
def execTB (offset11 : BitVec 11) (s : State) : Result :=
  let s := s.fetchCost
  .next (s.setPc (s.pc + branchOffset11 offset11))

/-- Row T.BL.hi: R431. -/
def execTBlHi (offset11 : BitVec 11) (s : State) : Result :=
  let s := s.fetchCost
  .next (s.setReg Reg.lr (s.pc + offset11.signExtend 32 <<< 12))

/-- Row T.BL.lo: R432. -/
def execTBlLo (offset11 : BitVec 11) (s : State) : Result :=
  let s := s.fetchCost
  let next := s.pc - 2#32
  .next ((s.setPc (s.reg Reg.lr + offset11.setWidth 32 <<< 1)).setReg Reg.lr (next ||| 1#32))

end Sys2Proof.Machine
end

