-- ==== Sys2Proof/Machine/Transfer.lean ====
section
/-!
DEFINITION. The single data transfers and the swaps of the 32-bit encoding (spec/45_arm_single_transfer.md).
-/

namespace Sys2Proof.Machine

/-- A single load (R277, R280): read memory, write the base back, write the loaded value, one internal cycle. When both
write one register the loaded value is what remains. -/
def State.loadSingle (s : State) (kind : LoadKind) (a : TransferAddress) (rn rd : Reg) : State :=
  let data := s.memRead kind a.addr
  let s1 := s.dataCost kind.width false a.addr
  let s2 := if a.wback then s1.setReg rn a.offaddr else s1
  (s2.setReg rd data).internalCycle

/-- A single store of the value `v` (R277, R281): write memory, write the base back. -/
def State.storeSingle (s : State) (w : Width) (a : TransferAddress) (rn : Reg) (v : Word) : State :=
  let s1 := (s.memWrite w a.addr v).dataCost w false a.addr
  if a.wback then s1.setReg rn a.offaddr else s1

/-- SWP and SWPB (R293, R294): the read comes before the write, both non-sequential (R503). -/
def State.swap (s : State) (kind : LoadKind) (w : Width) (f : SwpForm) : State :=
  let addr := s.reg f.rn
  let src := s.storedReg f.rm
  let data := s.memRead kind addr
  let s1 := ((s.dataCost w false addr).memWrite w addr src).dataCost w false addr
  (s1.setReg f.rd data).internalCycle

/-- Row SWP: R293. -/
def execSwp (f : SwpForm) (s : State) : Result :=
  s.prologue f.cond fun s => .next (s.swap .word .word f)

/-- Row SWPB: R294. -/
def execSwpb (f : SwpForm) (s : State) : Result :=
  s.prologue f.cond fun s => .next (s.swap .byte .byte f)

/-- Row STRH.reg: R290. -/
def execStrhReg (f : HdtReg) (s : State) : Result :=
  s.prologue f.cond fun s => .next (s.storeSingle .half (addressHdtReg f s) f.rn (s.storedReg f.rd))

/-- Row STRH.imm: R290. -/
def execStrhImm (f : HdtImm) (s : State) : Result :=
  s.prologue f.cond fun s => .next (s.storeSingle .half (addressHdtImm f s) f.rn (s.storedReg f.rd))

/-- Row LDRH.reg: R289. -/
def execLdrhReg (f : HdtReg) (s : State) : Result :=
  s.prologue f.cond fun s => .next (s.loadSingle .half (addressHdtReg f s) f.rn f.rd)

/-- Row LDRH.imm: R289. -/
def execLdrhImm (f : HdtImm) (s : State) : Result :=
  s.prologue f.cond fun s => .next (s.loadSingle .half (addressHdtImm f s) f.rn f.rd)

/-- Row LDRSB.reg: R291. -/
def execLdrsbReg (f : HdtReg) (s : State) : Result :=
  s.prologue f.cond fun s => .next (s.loadSingle .signedByte (addressHdtReg f s) f.rn f.rd)

/-- Row LDRSB.imm: R291. -/
def execLdrsbImm (f : HdtImm) (s : State) : Result :=
  s.prologue f.cond fun s => .next (s.loadSingle .signedByte (addressHdtImm f s) f.rn f.rd)

/-- Row LDRSH.reg: R292. -/
def execLdrshReg (f : HdtReg) (s : State) : Result :=
  s.prologue f.cond fun s => .next (s.loadSingle .signedHalf (addressHdtReg f s) f.rn f.rd)

/-- Row LDRSH.imm: R292. -/
def execLdrshImm (f : HdtImm) (s : State) : Result :=
  s.prologue f.cond fun s => .next (s.loadSingle .signedHalf (addressHdtImm f s) f.rn f.rd)

/-- Row LDR.imm.pre: R280. -/
def execLdrImmPre (f : SdtImm) (s : State) : Result :=
  s.prologue f.cond fun s => .next (s.loadSingle .word (addressSdtImm true f s) f.rn f.rd)

/-- Row LDR.imm.post: R280. -/
def execLdrImmPost (f : SdtImm) (s : State) : Result :=
  s.prologue f.cond fun s => .next (s.loadSingle .word (addressSdtImm false f s) f.rn f.rd)

/-- Row LDRT.imm: R285. -/
def execLdrtImm (f : SdtImm) (s : State) : Result :=
  s.prologue f.cond fun s => .next (s.loadSingle .word (addressSdtImm false f s) f.rn f.rd)

/-- Row LDR.reg.pre: R280. -/
def execLdrRegPre (f : SdtReg) (s : State) : Result :=
  s.prologue f.cond fun s => .next (s.loadSingle .word (addressSdtReg true f s) f.rn f.rd)

/-- Row LDR.reg.post: R280. -/
def execLdrRegPost (f : SdtReg) (s : State) : Result :=
  s.prologue f.cond fun s => .next (s.loadSingle .word (addressSdtReg false f s) f.rn f.rd)

/-- Row LDRT.reg: R285. -/
def execLdrtReg (f : SdtReg) (s : State) : Result :=
  s.prologue f.cond fun s => .next (s.loadSingle .word (addressSdtReg false f s) f.rn f.rd)

/-- Row STR.imm.pre: R281. -/
def execStrImmPre (f : SdtImm) (s : State) : Result :=
  s.prologue f.cond fun s => .next (s.storeSingle .word (addressSdtImm true f s) f.rn (s.storedReg f.rd))

/-- Row STR.imm.post: R281. -/
def execStrImmPost (f : SdtImm) (s : State) : Result :=
  s.prologue f.cond fun s => .next (s.storeSingle .word (addressSdtImm false f s) f.rn (s.storedReg f.rd))

/-- Row STRT.imm: R286. -/
def execStrtImm (f : SdtImm) (s : State) : Result :=
  s.prologue f.cond fun s => .next (s.storeSingle .word (addressSdtImm false f s) f.rn (s.storedReg f.rd))

/-- Row STR.reg.pre: R281. -/
def execStrRegPre (f : SdtReg) (s : State) : Result :=
  s.prologue f.cond fun s => .next (s.storeSingle .word (addressSdtReg true f s) f.rn (s.storedReg f.rd))

/-- Row STR.reg.post: R281. -/
def execStrRegPost (f : SdtReg) (s : State) : Result :=
  s.prologue f.cond fun s => .next (s.storeSingle .word (addressSdtReg false f s) f.rn (s.storedReg f.rd))

/-- Row STRT.reg: R286. -/
def execStrtReg (f : SdtReg) (s : State) : Result :=
  s.prologue f.cond fun s => .next (s.storeSingle .word (addressSdtReg false f s) f.rn (s.storedReg f.rd))

/-- Row LDRB.imm.pre: R282. -/
def execLdrbImmPre (f : SdtImm) (s : State) : Result :=
  s.prologue f.cond fun s => .next (s.loadSingle .byte (addressSdtImm true f s) f.rn f.rd)

/-- Row LDRB.imm.post: R282. -/
def execLdrbImmPost (f : SdtImm) (s : State) : Result :=
  s.prologue f.cond fun s => .next (s.loadSingle .byte (addressSdtImm false f s) f.rn f.rd)

/-- Row LDRBT.imm: R287. -/
def execLdrbtImm (f : SdtImm) (s : State) : Result :=
  s.prologue f.cond fun s => .next (s.loadSingle .byte (addressSdtImm false f s) f.rn f.rd)

/-- Row LDRB.reg.pre: R282. -/
def execLdrbRegPre (f : SdtReg) (s : State) : Result :=
  s.prologue f.cond fun s => .next (s.loadSingle .byte (addressSdtReg true f s) f.rn f.rd)

/-- Row LDRB.reg.post: R282. -/
def execLdrbRegPost (f : SdtReg) (s : State) : Result :=
  s.prologue f.cond fun s => .next (s.loadSingle .byte (addressSdtReg false f s) f.rn f.rd)

/-- Row LDRBT.reg: R287. -/
def execLdrbtReg (f : SdtReg) (s : State) : Result :=
  s.prologue f.cond fun s => .next (s.loadSingle .byte (addressSdtReg false f s) f.rn f.rd)

/-- Row STRB.imm.pre: R283. -/
def execStrbImmPre (f : SdtImm) (s : State) : Result :=
  s.prologue f.cond fun s => .next (s.storeSingle .byte (addressSdtImm true f s) f.rn (s.storedReg f.rd))

/-- Row STRB.imm.post: R283. -/
def execStrbImmPost (f : SdtImm) (s : State) : Result :=
  s.prologue f.cond fun s => .next (s.storeSingle .byte (addressSdtImm false f s) f.rn (s.storedReg f.rd))

/-- Row STRBT.imm: R288. -/
def execStrbtImm (f : SdtImm) (s : State) : Result :=
  s.prologue f.cond fun s => .next (s.storeSingle .byte (addressSdtImm false f s) f.rn (s.storedReg f.rd))

/-- Row STRB.reg.pre: R283. -/
def execStrbRegPre (f : SdtReg) (s : State) : Result :=
  s.prologue f.cond fun s => .next (s.storeSingle .byte (addressSdtReg true f s) f.rn (s.storedReg f.rd))

/-- Row STRB.reg.post: R283. -/
def execStrbRegPost (f : SdtReg) (s : State) : Result :=
  s.prologue f.cond fun s => .next (s.storeSingle .byte (addressSdtReg false f s) f.rn (s.storedReg f.rd))

/-- Row STRBT.reg: R288. -/
def execStrbtReg (f : SdtReg) (s : State) : Result :=
  s.prologue f.cond fun s => .next (s.storeSingle .byte (addressSdtReg false f s) f.rn (s.storedReg f.rd))

end Sys2Proof.Machine
end

