-- ==== Sys2Proof/Machine/ThumbTransfer.lean ====
section
/-!
DEFINITION. The loads and stores of the 16-bit encoding, formats 6 to 11, 14 and 15
(spec/49_thumb_memory_branch.md R391 to R420).
-/

namespace Sys2Proof.Machine

/-- A single load without write-back (R390, R277). -/
def State.thumbLoad (s : State) (kind : LoadKind) (a : Word) (rd : Reg) : State :=
  s.loadSingle kind (plainAddress a) rd rd

/-- A single store without write-back (R390, R277). -/
def State.thumbStore (s : State) (w : Width) (a : Word) (rd : Reg) : State :=
  s.storeSingle w (plainAddress a) rd (s.reg rd)

/-- PUSH's registers: the low list and, with R, `x[14]` (R414). -/
def pushList (f : TPushPop) : BitVec 16 := 0#1 ++ bit1 f.r ++ 0#6 ++ f.rlist

/-- POP's registers: the low list and, with R, `x[15]` (R414). -/
def popList (f : TPushPop) : BitVec 16 := bit1 f.r ++ 0#7 ++ f.rlist

/-- The registers of STMIA and LDMIA. -/
def lowList (f : TBlock) : BitVec 16 := 0#8 ++ f.rlist

/-- PUSH after its fetch cost (R416). -/
def push (f : TPushPop) (s : State) : Result :=
  let rlist := pushList f
  if rlist = 0#16 then .refused .emptyRegisterList
  else
    let start := s.reg Reg.sp - blockSize rlist
    let s1 := (s.blockStore ((registersOf rlist).map s.reg) start).blockCost (registerCount rlist) start false
    .next (s1.setReg Reg.sp start)

/-- POP after its fetch cost (R417). -/
def pop (f : TPushPop) (s : State) : Result :=
  let rlist := popList f
  if rlist = 0#16 then .refused .emptyRegisterList
  else
    let a := s.reg Reg.sp
    let data := s.blockData a (registersOf rlist)
    let s1 := (s.blockCost (registerCount rlist) a false).writeLoaded data false
    let s2 := if f.r then s1.setPc (loadedPc data) else s1
    .next (s2.setReg Reg.sp (a + blockSize rlist)).internalCycle

/-- The words STMIA stores: the base is stored as `newbase` unless it is the lowest of the list (R419). -/
def thumbStoredWords (f : TBlock) (s : State) (newbase : Word) : List Word :=
  match registersOf (lowList f) with
  | [] => []
  | r :: rest => s.reg r :: rest.map fun q => if q = f.rb then newbase else s.reg q

/-- STMIA after its fetch cost (R419). -/
def thumbStoreMultiple (f : TBlock) (s : State) : Result :=
  let rlist := lowList f
  if rlist = 0#16 then .refused .emptyRegisterList
  else
    let base := s.reg f.rb
    let newbase := base + blockSize rlist
    let s1 := (s.blockStore (thumbStoredWords f s newbase) base).blockCost (registerCount rlist) base false
    .next (s1.setReg f.rb newbase)

/-- LDMIA after its fetch cost (R420): the base is written before the loaded registers. -/
def thumbLoadMultiple (f : TBlock) (s : State) : Result :=
  let rlist := lowList f
  if rlist = 0#16 then .refused .emptyRegisterList
  else
    let base := s.reg f.rb
    let data := s.blockData base (registersOf rlist)
    let s1 := (s.blockCost (registerCount rlist) base false).setReg f.rb (base + blockSize rlist)
    .next (s1.writeLoaded data false).internalCycle

/-- Row T.LDR.pc: R391. -/
def execTLdrPc (f : TRdWord8) (s : State) : Result :=
  let s := s.fetchCost
  .next (s.thumbLoad .word (alignWord s.pc + wordOffset8 f.word8) f.rd)

/-- Row T.STR.reg: R393. -/
def execTStrReg (f : TRegOff) (s : State) : Result :=
  let s := s.fetchCost
  .next (s.thumbStore .word (s.reg f.rb + s.reg f.ro) f.rd)

/-- Row T.STRB.reg: R394. -/
def execTStrbReg (f : TRegOff) (s : State) : Result :=
  let s := s.fetchCost
  .next (s.thumbStore .byte (s.reg f.rb + s.reg f.ro) f.rd)

/-- Row T.LDR.reg: R395. -/
def execTLdrReg (f : TRegOff) (s : State) : Result :=
  let s := s.fetchCost
  .next (s.thumbLoad .word (s.reg f.rb + s.reg f.ro) f.rd)

/-- Row T.LDRB.reg: R396. -/
def execTLdrbReg (f : TRegOff) (s : State) : Result :=
  let s := s.fetchCost
  .next (s.thumbLoad .byte (s.reg f.rb + s.reg f.ro) f.rd)

/-- Row T.STRH.reg: R398. -/
def execTStrhReg (f : TRegOff) (s : State) : Result :=
  let s := s.fetchCost
  .next (s.thumbStore .half (s.reg f.rb + s.reg f.ro) f.rd)

/-- Row T.LDSB: R399. -/
def execTLdsb (f : TRegOff) (s : State) : Result :=
  let s := s.fetchCost
  .next (s.thumbLoad .signedByte (s.reg f.rb + s.reg f.ro) f.rd)

/-- Row T.LDRH.reg: R400. -/
def execTLdrhReg (f : TRegOff) (s : State) : Result :=
  let s := s.fetchCost
  .next (s.thumbLoad .half (s.reg f.rb + s.reg f.ro) f.rd)

/-- Row T.LDSH: R401. -/
def execTLdsh (f : TRegOff) (s : State) : Result :=
  let s := s.fetchCost
  .next (s.thumbLoad .signedHalf (s.reg f.rb + s.reg f.ro) f.rd)

/-- Row T.STR.imm: R403. -/
def execTStrImm (f : TImmOff) (s : State) : Result :=
  let s := s.fetchCost
  .next (s.thumbStore .word (s.reg f.rb + f.offset5.setWidth 32 <<< 2) f.rd)

/-- Row T.LDR.imm: R404. -/
def execTLdrImm (f : TImmOff) (s : State) : Result :=
  let s := s.fetchCost
  .next (s.thumbLoad .word (s.reg f.rb + f.offset5.setWidth 32 <<< 2) f.rd)

/-- Row T.STRB.imm: R405. -/
def execTStrbImm (f : TImmOff) (s : State) : Result :=
  let s := s.fetchCost
  .next (s.thumbStore .byte (s.reg f.rb + f.offset5.setWidth 32) f.rd)

/-- Row T.LDRB.imm: R406. -/
def execTLdrbImm (f : TImmOff) (s : State) : Result :=
  let s := s.fetchCost
  .next (s.thumbLoad .byte (s.reg f.rb + f.offset5.setWidth 32) f.rd)

/-- Row T.STRH.imm: R408. -/
def execTStrhImm (f : TImmOff) (s : State) : Result :=
  let s := s.fetchCost
  .next (s.thumbStore .half (s.reg f.rb + f.offset5.setWidth 32 <<< 1) f.rd)

/-- Row T.LDRH.imm: R409. -/
def execTLdrhImm (f : TImmOff) (s : State) : Result :=
  let s := s.fetchCost
  .next (s.thumbLoad .half (s.reg f.rb + f.offset5.setWidth 32 <<< 1) f.rd)

/-- Row T.STR.sp: R411. -/
def execTStrSp (f : TRdWord8) (s : State) : Result :=
  let s := s.fetchCost
  .next (s.thumbStore .word (s.reg Reg.sp + wordOffset8 f.word8) f.rd)

/-- Row T.LDR.sp: R412. -/
def execTLdrSp (f : TRdWord8) (s : State) : Result :=
  let s := s.fetchCost
  .next (s.thumbLoad .word (s.reg Reg.sp + wordOffset8 f.word8) f.rd)

/-- Row T.PUSH: R416, R414, R415. -/
def execTPush (f : TPushPop) (s : State) : Result :=
  push f s.fetchCost

/-- Row T.POP: R417, R414, R415. -/
def execTPop (f : TPushPop) (s : State) : Result :=
  pop f s.fetchCost

/-- Row T.STMIA: R419, R414, R415. -/
def execTStmia (f : TBlock) (s : State) : Result :=
  thumbStoreMultiple f s.fetchCost

/-- Row T.LDMIA: R420, R414, R415. -/
def execTLdmia (f : TBlock) (s : State) : Result :=
  thumbLoadMultiple f s.fetchCost

end Sys2Proof.Machine
end

