-- ==== Sys2Proof/Machine/Dispatch.lean ====
section
/-! DEFINITION. The operation that runs for each instruction (R155): one direct call of its meaning per row of the
opcode table. -/

namespace Sys2Proof.Machine

def exec (i : Instr) (s : State) : Host.Outcome State Fault Refusal :=
  match i with
  -- DataProcessing.lean
  | .andImm f => Sys2Proof.Machine.execAndImm f s
  | .andRegImm f => Sys2Proof.Machine.execAndRegImm f s
  | .andRegReg f => Sys2Proof.Machine.execAndRegReg f s
  | .eorImm f => Sys2Proof.Machine.execEorImm f s
  | .eorRegImm f => Sys2Proof.Machine.execEorRegImm f s
  | .eorRegReg f => Sys2Proof.Machine.execEorRegReg f s
  | .subImm f => Sys2Proof.Machine.execSubImm f s
  | .subRegImm f => Sys2Proof.Machine.execSubRegImm f s
  | .subRegReg f => Sys2Proof.Machine.execSubRegReg f s
  | .rsbImm f => Sys2Proof.Machine.execRsbImm f s
  | .rsbRegImm f => Sys2Proof.Machine.execRsbRegImm f s
  | .rsbRegReg f => Sys2Proof.Machine.execRsbRegReg f s
  | .addImm f => Sys2Proof.Machine.execAddImm f s
  | .addRegImm f => Sys2Proof.Machine.execAddRegImm f s
  | .addRegReg f => Sys2Proof.Machine.execAddRegReg f s
  | .adcImm f => Sys2Proof.Machine.execAdcImm f s
  | .adcRegImm f => Sys2Proof.Machine.execAdcRegImm f s
  | .adcRegReg f => Sys2Proof.Machine.execAdcRegReg f s
  | .sbcImm f => Sys2Proof.Machine.execSbcImm f s
  | .sbcRegImm f => Sys2Proof.Machine.execSbcRegImm f s
  | .sbcRegReg f => Sys2Proof.Machine.execSbcRegReg f s
  | .rscImm f => Sys2Proof.Machine.execRscImm f s
  | .rscRegImm f => Sys2Proof.Machine.execRscRegImm f s
  | .rscRegReg f => Sys2Proof.Machine.execRscRegReg f s
  | .tstImm f => Sys2Proof.Machine.execTstImm f s
  | .tstRegImm f => Sys2Proof.Machine.execTstRegImm f s
  | .tstRegReg f => Sys2Proof.Machine.execTstRegReg f s
  | .teqImm f => Sys2Proof.Machine.execTeqImm f s
  | .teqRegImm f => Sys2Proof.Machine.execTeqRegImm f s
  | .teqRegReg f => Sys2Proof.Machine.execTeqRegReg f s
  | .cmpImm f => Sys2Proof.Machine.execCmpImm f s
  | .cmpRegImm f => Sys2Proof.Machine.execCmpRegImm f s
  | .cmpRegReg f => Sys2Proof.Machine.execCmpRegReg f s
  | .cmnImm f => Sys2Proof.Machine.execCmnImm f s
  | .cmnRegImm f => Sys2Proof.Machine.execCmnRegImm f s
  | .cmnRegReg f => Sys2Proof.Machine.execCmnRegReg f s
  | .orrImm f => Sys2Proof.Machine.execOrrImm f s
  | .orrRegImm f => Sys2Proof.Machine.execOrrRegImm f s
  | .orrRegReg f => Sys2Proof.Machine.execOrrRegReg f s
  | .movImm f => Sys2Proof.Machine.execMovImm f s
  | .movRegImm f => Sys2Proof.Machine.execMovRegImm f s
  | .movRegReg f => Sys2Proof.Machine.execMovRegReg f s
  | .bicImm f => Sys2Proof.Machine.execBicImm f s
  | .bicRegImm f => Sys2Proof.Machine.execBicRegImm f s
  | .bicRegReg f => Sys2Proof.Machine.execBicRegReg f s
  | .mvnImm f => Sys2Proof.Machine.execMvnImm f s
  | .mvnRegImm f => Sys2Proof.Machine.execMvnRegImm f s
  | .mvnRegReg f => Sys2Proof.Machine.execMvnRegReg f s
  -- System.lean
  | .mrs f => Sys2Proof.Machine.execMrs f s
  | .msrReg f => Sys2Proof.Machine.execMsrReg f s
  | .msrImm f => Sys2Proof.Machine.execMsrImm f s
  -- Multiply.lean
  | .mul f => Sys2Proof.Machine.execMul f s
  | .mla f => Sys2Proof.Machine.execMla f s
  | .umull f => Sys2Proof.Machine.execUmull f s
  | .umlal f => Sys2Proof.Machine.execUmlal f s
  | .smull f => Sys2Proof.Machine.execSmull f s
  | .smlal f => Sys2Proof.Machine.execSmlal f s
  -- Transfer.lean
  | .swp f => Sys2Proof.Machine.execSwp f s
  | .swpb f => Sys2Proof.Machine.execSwpb f s
  -- Branch.lean
  | .bx f => Sys2Proof.Machine.execBx f s
  -- Transfer.lean
  | .strhReg f => Sys2Proof.Machine.execStrhReg f s
  | .strhImm f => Sys2Proof.Machine.execStrhImm f s
  | .ldrhReg f => Sys2Proof.Machine.execLdrhReg f s
  | .ldrhImm f => Sys2Proof.Machine.execLdrhImm f s
  | .ldrsbReg f => Sys2Proof.Machine.execLdrsbReg f s
  | .ldrsbImm f => Sys2Proof.Machine.execLdrsbImm f s
  | .ldrshReg f => Sys2Proof.Machine.execLdrshReg f s
  | .ldrshImm f => Sys2Proof.Machine.execLdrshImm f s
  | .ldrImmPre f => Sys2Proof.Machine.execLdrImmPre f s
  | .ldrImmPost f => Sys2Proof.Machine.execLdrImmPost f s
  | .ldrtImm f => Sys2Proof.Machine.execLdrtImm f s
  | .ldrRegPre f => Sys2Proof.Machine.execLdrRegPre f s
  | .ldrRegPost f => Sys2Proof.Machine.execLdrRegPost f s
  | .ldrtReg f => Sys2Proof.Machine.execLdrtReg f s
  | .strImmPre f => Sys2Proof.Machine.execStrImmPre f s
  | .strImmPost f => Sys2Proof.Machine.execStrImmPost f s
  | .strtImm f => Sys2Proof.Machine.execStrtImm f s
  | .strRegPre f => Sys2Proof.Machine.execStrRegPre f s
  | .strRegPost f => Sys2Proof.Machine.execStrRegPost f s
  | .strtReg f => Sys2Proof.Machine.execStrtReg f s
  | .ldrbImmPre f => Sys2Proof.Machine.execLdrbImmPre f s
  | .ldrbImmPost f => Sys2Proof.Machine.execLdrbImmPost f s
  | .ldrbtImm f => Sys2Proof.Machine.execLdrbtImm f s
  | .ldrbRegPre f => Sys2Proof.Machine.execLdrbRegPre f s
  | .ldrbRegPost f => Sys2Proof.Machine.execLdrbRegPost f s
  | .ldrbtReg f => Sys2Proof.Machine.execLdrbtReg f s
  | .strbImmPre f => Sys2Proof.Machine.execStrbImmPre f s
  | .strbImmPost f => Sys2Proof.Machine.execStrbImmPost f s
  | .strbtImm f => Sys2Proof.Machine.execStrbtImm f s
  | .strbRegPre f => Sys2Proof.Machine.execStrbRegPre f s
  | .strbRegPost f => Sys2Proof.Machine.execStrbRegPost f s
  | .strbtReg f => Sys2Proof.Machine.execStrbtReg f s
  -- Block.lean
  | .ldm f => Sys2Proof.Machine.execLdm f s
  | .stm f => Sys2Proof.Machine.execStm f s
  -- Branch.lean
  | .b f => Sys2Proof.Machine.execB f s
  | .bl f => Sys2Proof.Machine.execBl f s
  -- System.lean
  | .stc f => Sys2Proof.Machine.execStc f s
  | .ldc f => Sys2Proof.Machine.execLdc f s
  | .cdp f => Sys2Proof.Machine.execCdp f s
  | .mcr f => Sys2Proof.Machine.execMcr f s
  | .mrc f => Sys2Proof.Machine.execMrc f s
  | .swi f => Sys2Proof.Machine.execSwi f s
  -- ThumbAlu.lean
  | .tLslImm f => Sys2Proof.Machine.execTLslImm f s
  | .tLsrImm f => Sys2Proof.Machine.execTLsrImm f s
  | .tAsrImm f => Sys2Proof.Machine.execTAsrImm f s
  | .tAddReg f => Sys2Proof.Machine.execTAddReg f s
  | .tSubReg f => Sys2Proof.Machine.execTSubReg f s
  | .tAddImm3 f => Sys2Proof.Machine.execTAddImm3 f s
  | .tSubImm3 f => Sys2Proof.Machine.execTSubImm3 f s
  | .tMovImm8 f => Sys2Proof.Machine.execTMovImm8 f s
  | .tCmpImm8 f => Sys2Proof.Machine.execTCmpImm8 f s
  | .tAddImm8 f => Sys2Proof.Machine.execTAddImm8 f s
  | .tSubImm8 f => Sys2Proof.Machine.execTSubImm8 f s
  | .tAnd f => Sys2Proof.Machine.execTAnd f s
  | .tEor f => Sys2Proof.Machine.execTEor f s
  | .tLslReg f => Sys2Proof.Machine.execTLslReg f s
  | .tLsrReg f => Sys2Proof.Machine.execTLsrReg f s
  | .tAsrReg f => Sys2Proof.Machine.execTAsrReg f s
  | .tAdc f => Sys2Proof.Machine.execTAdc f s
  | .tSbc f => Sys2Proof.Machine.execTSbc f s
  | .tRor f => Sys2Proof.Machine.execTRor f s
  | .tTst f => Sys2Proof.Machine.execTTst f s
  | .tNeg f => Sys2Proof.Machine.execTNeg f s
  | .tCmpReg f => Sys2Proof.Machine.execTCmpReg f s
  | .tCmn f => Sys2Proof.Machine.execTCmn f s
  | .tOrr f => Sys2Proof.Machine.execTOrr f s
  | .tMul f => Sys2Proof.Machine.execTMul f s
  | .tBic f => Sys2Proof.Machine.execTBic f s
  | .tMvn f => Sys2Proof.Machine.execTMvn f s
  | .tAddHi f => Sys2Proof.Machine.execTAddHi f s
  | .tCmpHi f => Sys2Proof.Machine.execTCmpHi f s
  | .tMovHi f => Sys2Proof.Machine.execTMovHi f s
  | .tBx f => Sys2Proof.Machine.execTBx f s
  -- ThumbTransfer.lean
  | .tLdrPc f => Sys2Proof.Machine.execTLdrPc f s
  | .tStrReg f => Sys2Proof.Machine.execTStrReg f s
  | .tStrbReg f => Sys2Proof.Machine.execTStrbReg f s
  | .tLdrReg f => Sys2Proof.Machine.execTLdrReg f s
  | .tLdrbReg f => Sys2Proof.Machine.execTLdrbReg f s
  | .tStrhReg f => Sys2Proof.Machine.execTStrhReg f s
  | .tLdsb f => Sys2Proof.Machine.execTLdsb f s
  | .tLdrhReg f => Sys2Proof.Machine.execTLdrhReg f s
  | .tLdsh f => Sys2Proof.Machine.execTLdsh f s
  | .tStrImm f => Sys2Proof.Machine.execTStrImm f s
  | .tLdrImm f => Sys2Proof.Machine.execTLdrImm f s
  | .tStrbImm f => Sys2Proof.Machine.execTStrbImm f s
  | .tLdrbImm f => Sys2Proof.Machine.execTLdrbImm f s
  | .tStrhImm f => Sys2Proof.Machine.execTStrhImm f s
  | .tLdrhImm f => Sys2Proof.Machine.execTLdrhImm f s
  | .tStrSp f => Sys2Proof.Machine.execTStrSp f s
  | .tLdrSp f => Sys2Proof.Machine.execTLdrSp f s
  -- ThumbAlu.lean
  | .tAddPc f => Sys2Proof.Machine.execTAddPc f s
  | .tAddSp f => Sys2Proof.Machine.execTAddSp f s
  | .tAddSpImm7 sword7 => Sys2Proof.Machine.execTAddSpImm7 sword7 s
  | .tSubSpImm7 sword7 => Sys2Proof.Machine.execTSubSpImm7 sword7 s
  -- ThumbTransfer.lean
  | .tPush f => Sys2Proof.Machine.execTPush f s
  | .tPop f => Sys2Proof.Machine.execTPop f s
  | .tStmia f => Sys2Proof.Machine.execTStmia f s
  | .tLdmia f => Sys2Proof.Machine.execTLdmia f s
  -- ThumbBranch.lean
  | .tBeq soffset8 => Sys2Proof.Machine.execTBeq soffset8 s
  | .tBne soffset8 => Sys2Proof.Machine.execTBne soffset8 s
  | .tBcs soffset8 => Sys2Proof.Machine.execTBcs soffset8 s
  | .tBcc soffset8 => Sys2Proof.Machine.execTBcc soffset8 s
  | .tBmi soffset8 => Sys2Proof.Machine.execTBmi soffset8 s
  | .tBpl soffset8 => Sys2Proof.Machine.execTBpl soffset8 s
  | .tBvs soffset8 => Sys2Proof.Machine.execTBvs soffset8 s
  | .tBvc soffset8 => Sys2Proof.Machine.execTBvc soffset8 s
  | .tBhi soffset8 => Sys2Proof.Machine.execTBhi soffset8 s
  | .tBls soffset8 => Sys2Proof.Machine.execTBls soffset8 s
  | .tBge soffset8 => Sys2Proof.Machine.execTBge soffset8 s
  | .tBlt soffset8 => Sys2Proof.Machine.execTBlt soffset8 s
  | .tBgt soffset8 => Sys2Proof.Machine.execTBgt soffset8 s
  | .tBle soffset8 => Sys2Proof.Machine.execTBle soffset8 s
  | .tSwi value8 => Sys2Proof.Machine.execTSwi value8 s
  | .tB offset11 => Sys2Proof.Machine.execTB offset11 s
  | .tBlHi offset11 => Sys2Proof.Machine.execTBlHi offset11 s
  | .tBlLo offset11 => Sys2Proof.Machine.execTBlLo offset11 s

end Sys2Proof.Machine
end

