-- ==== Sys2Proof/Machine/Engine.lean ====
section
/-!
DEFINITION. The parts of the step around the operation (spec/40_execution_engine.md R151 to R158): the fetch through the
instruction cache (spec/20_memory.md R82, R83, R85), the advance of `x[15]`, the write-PC path, the hand-off. And the placing
of an instruction word where the next fetch reads it, for `State.withFetchWord`.
-/

namespace Sys2Proof.Machine

/-- The address of the next instruction, `x[15] - W` (R23, R151). -/
def State.fetchAddress (s : State) : Word := s.pc - s.width

/-- The aligned address of the fetch: bits 1:0 are dropped in ARM state (R85, R82). -/
def State.fetchKey (s : State) : Word := if s.t then s.fetchAddress else alignWord s.fetchAddress

/-- The cache entry at the fetch key, of the current execution state only (R82, R83). -/
def State.cachedOp (s : State) : Option DecodedOp :=
  if s.t then SortedMap.find s.fetchKey.toNat s.icacheThumb else SortedMap.find s.fetchKey.toNat s.icacheArm

/-- The bus read of a miss: `load32` in ARM state, `loadU16` in Thumb state (R63, R82). At an odd address, which no run
reaches (R24), the low halfword of the rotated read is decoded: log 13. -/
def State.fetchWord (s : State) : Word := if s.t then s.loadU16 s.fetchKey else s.load32 s.fetchKey

/-- `icache[(s, k)] <- op` (R82). -/
def State.fillCache (s : State) (op : DecodedOp) : State :=
  if s.t then { s with icacheThumb := SortedMap.insert s.fetchKey.toNat op s.icacheThumb }
  else { s with icacheArm := SortedMap.insert s.fetchKey.toNat op s.icacheArm }

/-- What the memory at the fetch key decodes to now. -/
def State.decodedAtFetch (s : State) : DecodedOp := decodeOp s.fetchWord s.execState

/-- `Fetch(x[15] - W)` (R82): the operation, and the state with the cache filled on a miss. -/
def State.fetch (s : State) : DecodedOp × State :=
  match s.cachedOp with
  | some op => (op, s)
  | none => (s.decodedAtFetch, s.fillCache s.decodedAtFetch)

/-- `x[15] <- x[15] + W`; `condPassed <- true` (R153, R154). -/
def State.advance (s : State) : State := { s.setPc (s.pc + s.width) with condPassed := true }

/-- The write-PC path (R157), `T` as the operation left it. -/
def State.writePcPath (s : State) (writesPC : Bool) : State :=
  if writesPC then
    if s.condPassed then
      let p := alignHalf s.pc
      (s.refillCost p).setPc (p + s.width)
    else { s with fetchNonSeq := true }
  else s

/-- `updateTimers()` (R158): the external subsystem's work is out of scope (R5), and what it may do to the CORE it does
by the events of Machine/Ports.lean before the next step. Log 8. -/
def State.updateTimers (s : State) : State := s

/-- What the step does after an operation that returned normally (R160). -/
def State.finish (s : State) (writesPC : Bool) : State := (s.writePcPath writesPC).updateTimers

/-- The instruction of `nbits` bits `w` stored where the next step fetches: a 16-bit one puts the machine in Thumb state,
a wider one in ARM state, at the address of the next instruction. The store invalidates the cache entries it covers
(R84). Log 14. -/
def State.placeFetchWord (s : State) (nbits w : Nat) : State :=
  let a := s.fetchAddress
  if nbits ≤ 16 then
    ({ s with t := true }.store16 a (BitVec.ofNat 32 w)).setPc (alignHalf a + 2#32)
  else
    ({ s with t := false }.store32 a (BitVec.ofNat 32 w)).setPc (a + 4#32)

end Sys2Proof.Machine
end

