-- ==== Sys2Proof/Machine/Step.lean ====
section
/-! DEFINITION. One step of the machine (spec/40_execution_engine.md R150, R160), and the placing of a word for it. -/

namespace Sys2Proof.Machine

/-- `step()` (R160): fetch, advance, run the operation, the write-PC path, the hand-off. `Illegal` raises before
anything else (R331, R449). -/
def step (s : State) : Host.Outcome State Fault Refusal :=
  let op := s.fetch.1
  let s1 := s.fetch.2.advance
  match op.kind with
  | .illegal word => .fault (.illegalInstruction word s1)
  | .instr i => Result.andThen (exec i s1) fun s2 => .next (s2.finish op.writesPC)

/-- The state with the instruction of `nbits` bits `w` placed where `step` fetches its next instruction (log 14). -/
def State.withFetchWord (s : State) (nbits w : Nat) : State := s.placeFetchWord nbits w

end Sys2Proof.Machine
end

