-- ==== Sys2Proof/Machine/Ports.lean ====
section
/-!
DEFINITION. The ports of the CORE other than its own bus accesses (spec/00_scope.md R7, R8): `raiseInterrupt`, `reset`,
the memory writes and the `invalidate` of other agents, the advance of `cycles`, the debug and the persist port. Each
acts between two steps, never inside one (R8, R162), on a live machine or on one that has faulted (R453, R482).
-/

namespace Sys2Proof.Machine

/-- `raiseInterrupt()` (R441): dropped silently while `I` = 1. -/
def State.raiseInterrupt (s : State) : State := if s.i then s else s.irqEntry

/-- `reset(entry)` (R480 to R482): memory and the log are not touched. An entry that is not a multiple of 4 is refused
(log 18). -/
def State.resetTo (s : State) (entry : Word) : Result :=
  if entry.extractLsb' 0 2 = 0#2 then .next (State.resetAt entry s.mem s.log) else .refused .misalignedResetEntry

/-- The bytes written by another agent at consecutive addresses. -/
def State.setBytes (s : State) (a : Word) : List Byte → State
  | [] => s
  | b :: rest => (s.setByte a b).setBytes (a + 1#32) rest

/-- Another agent's write: the bytes change, and the memory subsystem calls `invalidate` (R8, R84, R492). -/
def State.externalWrite (s : State) (a : Word) (bytes : List Byte) : State :=
  (s.setBytes a bytes).invalidate a bytes.length

/-- A peripheral advances the cycle counter, never subtracting (R45, R507, R472). -/
def State.advanceCycles (s : State) (k : Nat) : State := { s with cycles := s.cycles + k }

/-- What the debug port reads (R470). -/
structure DebugView where
  state : ExecState
  mode  : Mode
  pc    : Word
  deriving DecidableEq, Repr

/-- The debug port (R470): it changes nothing. -/
def State.debugView (s : State) : DebugView := { state := s.execState, mode := s.mode, pc := s.pc }

/-- The persisted state (R48): the mode is its number. The cache is not persisted, memory belongs to its own agent. -/
structure Persisted where
  x           : Vector Word 16
  n           : Bool
  z           : Bool
  c           : Bool
  v           : Bool
  i           : Bool
  f           : Bool
  t           : Bool
  mode        : BitVec 5
  spsr        : Word
  shadow      : Shadow
  shadow8_12  : HighShadow
  cycles      : Nat
  fetchNonSeq : Bool
  deriving DecidableEq, Repr

/-- The persist port, read (R48). -/
def State.persist (s : State) : Persisted where
  x := s.x
  n := s.n
  z := s.z
  c := s.c
  v := s.v
  i := s.i
  f := s.f
  t := s.t
  mode := s.mode.bits
  spsr := s.spsr
  shadow := s.shadow
  shadow8_12 := s.shadow8_12
  cycles := s.cycles
  fetchNonSeq := s.fetchNonSeq

/-- Bits 27:8 of a saved status are zero (R35, R40). -/
def statusReservedClear (w : Word) : Bool := w &&& 0x0FFFFF00#32 == 0#32

/-- The loaded state obeys R35 (reserved bits of every saved status) and R24 (bit 0 of `x[15]`). -/
def Persisted.wellFormed (p : Persisted) : Bool :=
  statusReservedClear p.spsr && statusReservedClear p.shadow.usr.spsr && statusReservedClear p.shadow.fiq.spsr
    && statusReservedClear p.shadow.irq.spsr && statusReservedClear p.shadow.svc.spsr
    && statusReservedClear p.shadow.abt.spsr && statusReservedClear p.shadow.und.spsr && !p.x[15].getLsbD 0

/-- The persist port, load (R48, R88): the cache is emptied, memory and the log stay. A state that breaks the invariants
is "outside the spec" and refused (log 19). -/
def State.loadPersisted (s : State) (p : Persisted) : Result :=
  match Mode.ofBits p.mode with
  | none => .refused .illFormedPersistedState
  | some m =>
    if p.wellFormed then
      .next { s with
        x := p.x, n := p.n, z := p.z, c := p.c, v := p.v, i := p.i, f := p.f, t := p.t, mode := m, spsr := p.spsr
        shadow := p.shadow, shadow8_12 := p.shadow8_12, cycles := p.cycles, fetchNonSeq := p.fetchNonSeq
        icacheArm := [], icacheThumb := [] }
    else .refused .illFormedPersistedState

/-- What may happen at a step boundary (R7, R8, R162). -/
inductive Event where
  | step
  | raiseInterrupt
  | reset (entry : Word)
  | externalWrite (a : Word) (bytes : List Byte)
  | invalidate (a : Word) (n : Nat)
  | advanceCycles (k : Nat)
  | load (p : Persisted)
  deriving DecidableEq, Repr

/-- The machine's answer to an event (R162). -/
def react (e : Event) (s : State) : Result :=
  match e with
  | .step => Sys2Proof.Machine.step s
  | .raiseInterrupt => .next s.raiseInterrupt
  | .reset entry => s.resetTo entry
  | .externalWrite a bytes => .next (s.externalWrite a bytes)
  | .invalidate a n => .next (s.invalidate a n)
  | .advanceCycles k => .next (s.advanceCycles k)
  | .load p => s.loadPersisted p

/-! ## After a fault -/

/-- The state a fault left behind, which the host may inspect (R453; log 11). -/
def Fault.left (e : Fault) : State :=
  match e with
  | .illegalInstruction _ l => l
  | .invariantViolation _ l => l

/-- The same fault with another state behind it. -/
def Fault.withLeft (e : Fault) (l : State) : Fault :=
  match e with
  | .illegalInstruction w _ => .illegalInstruction w l
  | .invariantViolation k _ => .invariantViolation k l

/-- What an event does to a faulted machine. `reset` and a persist load clear the fault: "the machine is live again" (R482,
R453), over the memory and the log of the state left behind. "Stepping a faulted machine again is outside the spec" (R453) and
refused (U27 of spec/93_implementation_defined.md), and so is an interrupt request (log 24): no run goes on from there, not by
a later reset either. The other agents' own actions still happen to the state left behind, so a reset after them finds the
memory they wrote (log 24). -/
def reactFaulted (e : Event) (f : Fault) : Result :=
  match e with
  | .step => .refused .faultedMachine
  | .raiseInterrupt => .refused .faultedMachine
  | .reset entry => f.left.resetTo entry
  | .externalWrite a bytes => .fault (f.withLeft (f.left.externalWrite a bytes))
  | .invalidate a n => .fault (f.withLeft (f.left.invalidate a n))
  | .advanceCycles k => .fault (f.withLeft (f.left.advanceCycles k))
  | .load p => f.left.loadPersisted p

/-- The answer to an event whatever the machine stands at: live, faulted, or refused, where the model has no state to go on
from. -/
def Result.react (r : Result) (e : Event) : Result :=
  match r with
  | .next s => Sys2Proof.Machine.react e s
  | .fault f => reactFaulted e f
  | .refused c => .refused c

/-- A composition of events from any outcome (R162, R453, R482). -/
def Result.reactAll (r : Result) (events : List Event) : Result :=
  match events with
  | [] => r
  | e :: rest => (r.react e).reactAll rest

/-- A composition of events from a live machine (R162). -/
def reactAll (events : List Event) (s : State) : Result := Result.reactAll (.next s) events

end Sys2Proof.Machine
end

