-- ==== Sys2Proof/Safety.lean ====
section
/-!
DEFINITION. What counts as a safe state and a safe run, in the terms the claims use: the invariant of the machine at a
step boundary, and the register view by mode of spec/10_state.md R37.
-/

namespace Sys2Proof.Machine

/-! ## The invariant at a step boundary -/

/-- The ARM half of the cache: keys strictly rising, multiples of 4 in the address space (R80). -/
def State.armCacheWf (s : State) : Prop :=
  SortedMap.rising s.icacheArm ∧ ∀ e ∈ s.icacheArm, e.1 < 2 ^ 32 ∧ e.1 % 4 = 0

/-- The Thumb half of the cache: keys strictly rising, even, in the address space (R80). -/
def State.thumbCacheWf (s : State) : Prop :=
  SortedMap.rising s.icacheThumb ∧ ∀ e ∈ s.icacheThumb, e.1 < 2 ^ 32 ∧ e.1 % 2 = 0

/-- Instruction-fetch coherence: "every entry present at `(s, k)` equals `Decode(current memory at k, s)`" (R86). -/
def State.cacheCoherent (s : State) : Prop :=
  (∀ e ∈ s.icacheArm, e.2 = decodeOp (s.load32 (BitVec.ofNat 32 e.1)) .arm) ∧
  (∀ e ∈ s.icacheThumb, e.2 = decodeOp (s.loadU16 (BitVec.ofNat 32 e.1)) .thumb)

/-- Bits 27:8 of every saved status, live and shadow, are zero (R35, R40). -/
def State.savedStatusReserved (s : State) : Prop :=
  statusReservedClear s.spsr = true ∧ ∀ b : Bank, statusReservedClear (s.shadow.get b).spsr = true

/-- The invariant of the machine between two steps: memory in its canonical form, the cache well-formed (R80) and
coherent (R86), reserved status bits zero (R35), bit 0 of `x[15]` zero (R24). R34's first clause holds by the type of
`mode`, its others by the construction of `switchModeTo` (R37). -/
structure State.Inv (s : State) : Prop where
  memory   : Memory.wf s.mem
  armCache : s.armCacheWf
  thumbCache : s.thumbCacheWf
  coherent : s.cacheCoherent
  reserved : s.savedStatusReserved
  pcEven   : s.pc.getLsbD 0 = false

/-! ## The register view by mode, R37 -/

/-- The register that mode `m` sees under number `r`, whatever the current mode is (R37). -/
def State.view (s : State) (m : Mode) (r : Reg) : Word :=
  if h : 8 ≤ r.toNat ∧ r.toNat ≤ 12 then
    if m.bank.high = s.mode.bank.high then s.reg r else (s.shadow8_12.get m.bank.high)[r.toNat - 8]'(by omega)
  else if r = Reg.sp then
    if m.bank = s.mode.bank then s.reg r else (s.shadow.get m.bank).r13
  else if r = Reg.lr then
    if m.bank = s.mode.bank then s.reg r else (s.shadow.get m.bank).r14
  else s.reg r

/-- The saved status of mode `m`, whatever the current mode is (R37). -/
def State.viewSpsr (s : State) (m : Mode) : Word :=
  if m.bank = s.mode.bank then s.spsr else (s.shadow.get m.bank).spsr

/-! ## Safe runs -/

/-- A result is safe when it is a next state that meets the invariant, or the fault or refusal the spec gives. -/
def Result.keepsInv (r : Result) : Prop :=
  match r with
  | .next s => s.Inv
  | .fault _ => True
  | .refused _ => True

end Sys2Proof.Machine
end

