-- ==== Sys2Proof/WellFormed.lean ====
section
/-!
DEFINITION. Well-formed instructions: those that have an encoding. Three checks: the four test operations exist only
with S = 1 (R104); W is 0 in the post-indexed word and byte transfers and 1 in their user-mode variants (R109, R115);
a 3-bit register field of the 16-bit encoding names only `x[0]` to `x[7]` (R22, section 4 of spec/30_encoding.md).
Every other field takes every value of its width.
-/

namespace Sys2Proof

/-- A low register: one of `x[0]` to `x[7]`, the only ones a 3-bit field names (R22). -/
def Reg.isLow (r : Reg) : Bool := !r.getLsbD 3

/-- The instruction has an encoding. -/
def Instr.wellFormed : Instr → Bool
  -- R104: TST, TEQ, CMP, CMN, S = 1 (DpImm)
  | .tstImm f | .teqImm f | .cmpImm f | .cmnImm f => f.s
  -- R104: TST, TEQ, CMP, CMN, S = 1 (DpRegImm)
  | .tstRegImm f | .teqRegImm f | .cmpRegImm f | .cmnRegImm f => f.s
  -- R104: TST, TEQ, CMP, CMN, S = 1 (DpRegReg)
  | .tstRegReg f | .teqRegReg f | .cmpRegReg f | .cmnRegReg f => f.s
  -- R115: P = 0, W = 0 (SdtImm)
  | .ldrImmPost f | .strImmPost f | .ldrbImmPost f | .strbImmPost f => !f.w
  -- R109: P = 0, W = 1 (SdtImm)
  | .ldrtImm f | .strtImm f | .ldrbtImm f | .strbtImm f => f.w
  -- R115: P = 0, W = 0 (SdtReg)
  | .ldrRegPost f | .strRegPost f | .ldrbRegPost f | .strbRegPost f => !f.w
  -- R109: P = 0, W = 1 (SdtReg)
  | .ldrtReg f | .strtReg f | .ldrbtReg f | .strbtReg f => f.w
  -- R22: low registers (TShift)
  | .tLslImm f | .tLsrImm f | .tAsrImm f => Reg.isLow f.rs && Reg.isLow f.rd
  -- R22: low registers (TAddSubReg)
  | .tAddReg f | .tSubReg f => Reg.isLow f.rn && Reg.isLow f.rs && Reg.isLow f.rd
  -- R22: low registers (TAddSubImm)
  | .tAddImm3 f | .tSubImm3 f => Reg.isLow f.rs && Reg.isLow f.rd
  -- R22: low registers (TImm8)
  | .tMovImm8 f | .tCmpImm8 f | .tAddImm8 f | .tSubImm8 f => Reg.isLow f.rd
  -- R22: low registers (TAlu)
  | .tAnd f | .tEor f | .tLslReg f | .tLsrReg f | .tAsrReg f | .tAdc f | .tSbc f | .tRor f | .tTst f
  | .tNeg f | .tCmpReg f | .tCmn f | .tOrr f | .tMul f | .tBic f | .tMvn f => Reg.isLow f.rs && Reg.isLow f.rd
  -- R22: low registers (TRdWord8)
  | .tLdrPc f | .tStrSp f | .tLdrSp f | .tAddPc f | .tAddSp f => Reg.isLow f.rd
  -- R22: low registers (TRegOff)
  | .tStrReg f | .tStrbReg f | .tLdrReg f | .tLdrbReg f | .tStrhReg f | .tLdsb f | .tLdrhReg f | .tLdsh f => Reg.isLow f.ro && Reg.isLow f.rb && Reg.isLow f.rd
  -- R22: low registers (TImmOff)
  | .tStrImm f | .tLdrImm f | .tStrbImm f | .tLdrbImm f | .tStrhImm f | .tLdrhImm f => Reg.isLow f.rb && Reg.isLow f.rd
  -- R22: low registers (TBlock)
  | .tStmia f | .tLdmia f => Reg.isLow f.rb
  -- every field is free
  | .andImm _ | .andRegImm _ | .andRegReg _ | .eorImm _ | .eorRegImm _ | .eorRegReg _ | .subImm _
  | .subRegImm _ | .subRegReg _ | .rsbImm _ | .rsbRegImm _ | .rsbRegReg _ | .addImm _ | .addRegImm _
  | .addRegReg _ | .adcImm _ | .adcRegImm _ | .adcRegReg _ | .sbcImm _ | .sbcRegImm _ | .sbcRegReg _
  | .rscImm _ | .rscRegImm _ | .rscRegReg _ | .orrImm _ | .orrRegImm _ | .orrRegReg _ | .movImm _
  | .movRegImm _ | .movRegReg _ | .bicImm _ | .bicRegImm _ | .bicRegReg _ | .mvnImm _ | .mvnRegImm _
  | .mvnRegReg _ | .mrs _ | .msrReg _ | .msrImm _ | .mul _ | .mla _ | .umull _ | .umlal _ | .smull _
  | .smlal _ | .swp _ | .swpb _ | .bx _ | .strhReg _ | .strhImm _ | .ldrhReg _ | .ldrhImm _ | .ldrsbReg _
  | .ldrsbImm _ | .ldrshReg _ | .ldrshImm _ | .ldrImmPre _ | .ldrRegPre _ | .strImmPre _ | .strRegPre _
  | .ldrbImmPre _ | .ldrbRegPre _ | .strbImmPre _ | .strbRegPre _ | .ldm _ | .stm _ | .b _ | .bl _ | .stc _
  | .ldc _ | .cdp _ | .mcr _ | .mrc _ | .swi _ | .tAddHi _ | .tCmpHi _ | .tMovHi _ | .tBx _ | .tAddSpImm7 _
  | .tSubSpImm7 _ | .tPush _ | .tPop _ | .tBeq _ | .tBne _ | .tBcs _ | .tBcc _ | .tBmi _ | .tBpl _ | .tBvs _
  | .tBvc _ | .tBhi _ | .tBls _ | .tBge _ | .tBlt _ | .tBgt _ | .tBle _ | .tSwi _ | .tB _ | .tBlHi _
  | .tBlLo _ => true

end Sys2Proof
end

