-- ==== Sys2Proof/Certificates/Slice0/Obligations.lean ====
section
/-!
DEFINITION. The statements for the provers: def Obligations.<Name> : Prop, each formalising rules of spec/. First the
vocabulary they are written in (namespace Sys2Proof.Claims): what stays unchanged, the rows of a family, and results in
exact integer arithmetic or by tables written out from the spec rather than by the machine's own functions.
-/

namespace Sys2Proof.Claims

open Sys2Proof.Machine

/-! ## What stays unchanged -/

/-- N, Z, C and V are unchanged. -/
def SameFlags (s t : State) : Prop := t.n = s.n ∧ t.z = s.z ∧ t.c = s.c ∧ t.v = s.v

/-- I, F, T and the mode are unchanged. -/
def SameControl (s t : State) : Prop := t.i = s.i ∧ t.f = s.f ∧ t.t = s.t ∧ t.mode = s.mode

/-- The saved status and every bank's storage are unchanged. -/
def SameBanks (s t : State) : Prop := t.spsr = s.spsr ∧ t.shadow = s.shadow ∧ t.shadow8_12 = s.shadow8_12

/-- Control bits, mode, banks and the log are unchanged. -/
def SameRest (s t : State) : Prop := SameControl s t ∧ SameBanks s t ∧ t.log = s.log

/-- Every byte of memory and both halves of the instruction cache are unchanged. -/
def SameMemory (s t : State) : Prop :=
  (∀ a : Word, t.byteAt a = s.byteAt a) ∧ t.icacheArm = s.icacheArm ∧ t.icacheThumb = s.icacheThumb

/-- Every live register is unchanged but those of `P`. -/
def SameRegsBut (s t : State) (P : Reg → Prop) : Prop := ∀ r, ¬ P r → t.reg r = s.reg r

/-- Two modes see one physical register under number `r` (the table of R37). -/
def SamePhysical (m m' : Mode) (r : Reg) : Prop :=
  if 8 ≤ r.toNat ∧ r.toNat ≤ 12 then (m = .fiq ↔ m' = .fiq)
  else if r = 13#4 ∨ r = 14#4 then m.bank = m'.bank
  else True

/-- Every mode's registers are unchanged but those of `P`, and every mode's saved status is. -/
def SameViewsBut (s t : State) (P : Mode → Reg → Prop) : Prop :=
  (∀ m r, ¬ P m r → t.view m r = s.view m r) ∧ ∀ m, t.viewSpsr m = s.viewSpsr m

/-! ## Timing -/

/-- The charge for fetching the executing instruction (R500). -/
def fetchCharge (s : State) : Nat :=
  match s.t, s.fetchNonSeq with
  | false, true => Config.waitN32 (s.pc - 8#32)
  | false, false => Config.waitS32 (s.pc - 8#32)
  | true, true => Config.waitN16 (s.pc - 4#32)
  | true, false => Config.waitS16 (s.pc - 4#32)

/-- A non-sequential data transaction's charge (R503). -/
def dataCharge : Width → Word → Nat
  | .word, a => Config.waitN32 a
  | .half, a => Config.waitN16 a
  | .byte, a => Config.waitN16 a

/-- The operation charged its fetch and `k` cycles more, left `nonSeq` for the next fetch, and its condition passed. -/
def Charged (s t : State) (k : Nat) (nonSeq : Bool) : Prop :=
  t.cycles = s.cycles + fetchCharge s + k ∧ t.fetchNonSeq = nonSeq ∧ t.condPassed = s.condPassed

/-! ## Conditions -/

/-- The predicate of a condition: the table of R181, pattern 15 as R183's row `always`. -/
def Holds (s : State) : Cond → Prop
  | .eq => s.z = true
  | .ne => s.z = false
  | .cs => s.c = true
  | .cc => s.c = false
  | .mi => s.n = true
  | .pl => s.n = false
  | .vs => s.v = true
  | .vc => s.v = false
  | .hi => s.c = true ∧ s.z = false
  | .ls => s.c = false ∨ s.z = true
  | .ge => s.n = s.v
  | .lt => s.n ≠ s.v
  | .gt => s.z = false ∧ s.n = s.v
  | .le => s.z = true ∨ s.n ≠ s.v
  | .al => True
  | .nv => True

/-- The condition an instruction carries: `instr[31:28]` of every 32-bit instruction, `instr[11:8]` of the 16-bit
conditional branch, none in every other 16-bit instruction (R156). -/
def condition : Instr → Option Cond
  | .andImm f | .eorImm f | .subImm f | .rsbImm f | .addImm f | .adcImm f | .sbcImm f | .rscImm f | .tstImm f
  | .teqImm f | .cmpImm f | .cmnImm f | .orrImm f | .movImm f | .bicImm f | .mvnImm f => some f.cond
  | .andRegImm f | .eorRegImm f | .subRegImm f | .rsbRegImm f | .addRegImm f | .adcRegImm f | .sbcRegImm f
  | .rscRegImm f | .tstRegImm f | .teqRegImm f | .cmpRegImm f | .cmnRegImm f | .orrRegImm f | .movRegImm f
  | .bicRegImm f | .mvnRegImm f => some f.cond
  | .andRegReg f | .eorRegReg f | .subRegReg f | .rsbRegReg f | .addRegReg f | .adcRegReg f | .sbcRegReg f
  | .rscRegReg f | .tstRegReg f | .teqRegReg f | .cmpRegReg f | .cmnRegReg f | .orrRegReg f | .movRegReg f
  | .bicRegReg f | .mvnRegReg f => some f.cond
  | .mrs f => some f.cond
  | .msrReg f => some f.cond
  | .msrImm f => some f.cond
  | .mul f | .mla f => some f.cond
  | .umull f | .umlal f | .smull f | .smlal f => some f.cond
  | .swp f | .swpb f => some f.cond
  | .bx f => some f.cond
  | .strhReg f | .ldrhReg f | .ldrsbReg f | .ldrshReg f => some f.cond
  | .strhImm f | .ldrhImm f | .ldrsbImm f | .ldrshImm f => some f.cond
  | .ldrImmPre f | .ldrImmPost f | .ldrtImm f | .strImmPre f | .strImmPost f | .strtImm f | .ldrbImmPre f
  | .ldrbImmPost f | .ldrbtImm f | .strbImmPre f | .strbImmPost f | .strbtImm f => some f.cond
  | .ldrRegPre f | .ldrRegPost f | .ldrtReg f | .strRegPre f | .strRegPost f | .strtReg f | .ldrbRegPre f
  | .ldrbRegPost f | .ldrbtReg f | .strbRegPre f | .strbRegPost f | .strbtReg f => some f.cond
  | .ldm f | .stm f => some f.cond
  | .b f | .bl f => some f.cond
  | .stc f | .ldc f => some f.cond
  | .cdp f => some f.cond
  | .mcr f | .mrc f => some f.cond
  | .swi f => some f.cond
  | .tBeq _ => some .eq
  | .tBne _ => some .ne
  | .tBcs _ => some .cs
  | .tBcc _ => some .cc
  | .tBmi _ => some .mi
  | .tBpl _ => some .pl
  | .tBvs _ => some .vs
  | .tBvc _ => some .vc
  | .tBhi _ => some .hi
  | .tBls _ => some .ls
  | .tBge _ => some .ge
  | .tBlt _ => some .lt
  | .tBgt _ => some .gt
  | .tBle _ => some .le
  | .tLslImm _ | .tLsrImm _ | .tAsrImm _ | .tAddReg _ | .tSubReg _ | .tAddImm3 _ | .tSubImm3 _ | .tMovImm8 _
  | .tCmpImm8 _ | .tAddImm8 _ | .tSubImm8 _ | .tAnd _ | .tEor _ | .tLslReg _ | .tLsrReg _ | .tAsrReg _
  | .tAdc _ | .tSbc _ | .tRor _ | .tTst _ | .tNeg _ | .tCmpReg _ | .tCmn _ | .tOrr _ | .tMul _ | .tBic _
  | .tMvn _ | .tAddHi _ | .tCmpHi _ | .tMovHi _ | .tBx _ | .tLdrPc _ | .tStrReg _ | .tStrbReg _ | .tLdrReg _
  | .tLdrbReg _ | .tStrhReg _ | .tLdsb _ | .tLdrhReg _ | .tLdsh _ | .tStrImm _ | .tLdrImm _ | .tStrbImm _
  | .tLdrbImm _ | .tStrhImm _ | .tLdrhImm _ | .tStrSp _ | .tLdrSp _ | .tAddPc _ | .tAddSp _ | .tAddSpImm7 _
  | .tSubSpImm7 _ | .tPush _ | .tPop _ | .tStmia _ | .tLdmia _ | .tSwi _ | .tB _ | .tBlHi _ | .tBlLo _ => none

/-- The instruction's condition passes, or it has none. -/
def Passes (i : Instr) (s : State) : Prop := ∀ c, condition i = some c → Holds s c

/-! ## Data processing in exact arithmetic -/

/-- The arithmetic operations (R212): their C and V are the adder's. -/
def arithmetic : DpOp → Bool
  | .sub | .rsb | .add | .adc | .sbc | .rsc | .cmp | .cmn => true
  | .and | .eor | .tst | .teq | .orr | .mov | .bic | .mvn => false

/-- The test operations, which write no register (R211). -/
def isTest : DpOp → Bool
  | .tst | .teq | .cmp | .cmn => true
  | .and | .eor | .sub | .rsb | .add | .adc | .sbc | .rsc | .orr | .mov | .bic | .mvn => false

/-- The unbounded result of an arithmetic operation on the operands read as the integers `a` and `b`, `c` the carry
before it (R217 to R222, R225, R226); 0 for a logical one. -/
def exact (op : DpOp) (a b : Int) (c : Bool) : Int :=
  match op with
  | .add | .cmn => a + b
  | .adc => a + b + c.toNat
  | .sub | .cmp => a - b
  | .rsb => b - a
  | .sbc => a - b - (1 - c.toNat)
  | .rsc => b - a - (1 - c.toNat)
  | .and | .eor | .tst | .teq | .orr | .mov | .bic | .mvn => 0

/-- The 32-bit result (R215 to R230). -/
def dpResult (op : DpOp) (a b : Word) (c : Bool) : Word :=
  match op with
  | .and | .tst => a &&& b
  | .eor | .teq => a ^^^ b
  | .orr => a ||| b
  | .mov => b
  | .bic => a &&& ~~~b
  | .mvn => ~~~b
  | .add | .cmn | .adc | .sub | .cmp | .rsb | .sbc | .rsc => BitVec.ofInt 32 (exact op a.toNat b.toNat c)

/-- C of an arithmetic operation: a carry out of the additions, no borrow for the subtractions (R26, R212). -/
def CarryOut (op : DpOp) (a b : Word) (c : Bool) : Prop :=
  match op with
  | .add | .cmn | .adc => (2 ^ 32 : Int) ≤ exact op a.toNat b.toNat c
  | .and | .eor | .tst | .teq | .orr | .mov | .bic | .mvn | .sub | .cmp | .rsb | .sbc | .rsc =>
    (0 : Int) ≤ exact op a.toNat b.toNat c

/-- V of an arithmetic operation: the exact signed result is no 32-bit signed number (R26, R13). -/
def Overflow (op : DpOp) (a b : Word) (c : Bool) : Prop :=
  ¬ (-(2 ^ 31 : Int) ≤ exact op a.toInt b.toInt c ∧ exact op a.toInt b.toInt c < 2 ^ 31)

/-- The flags after a flag-setting operation (R212): N and Z of the result; C and V of the adder, or C of the shifter and
V unchanged. -/
def DpFlags (op : DpOp) (a b : Word) (shifterCarry : Bool) (s t : State) : Prop :=
  t.n = (dpResult op a b s.c).getLsbD 31 ∧ (t.z = true ↔ dpResult op a b s.c = 0#32) ∧
  (if arithmetic op then (t.c = true ↔ CarryOut op a b s.c) ∧ (t.v = true ↔ Overflow op a b s.c)
   else t.c = shifterCarry ∧ t.v = s.v)

/-- The data-processing rows: instruction, operation, condition, S, Rn, Rd and operand 2, in the three operand forms
(R104, R117). -/
inductive DpRow : Instr → DpOp → Cond → Bool → Reg → Reg → Operand2 → Prop where
  | imm (op : DpOp) (f : DpImm) : DpRow (dpImmInstr op f) op f.cond f.s f.rn f.rd (.imm f.rot f.imm8)
  | regImm (op : DpOp) (f : DpRegImm) :
    DpRow (dpRegImmInstr op f) op f.cond f.s f.rn f.rd (.regImm f.rm f.ty f.amount5)
  | regReg (op : DpOp) (f : DpRegReg) : DpRow (dpRegRegInstr op f) op f.cond f.s f.rn f.rd (.regReg f.rm f.ty f.rs)

/-- The first operand: register 15 reads 4 more when the shift amount comes from a register (R214). -/
def firstOperand (form : Operand2) (s : State) (rn : Reg) : Word :=
  match form with
  | .imm _ _ => s.reg rn
  | .regImm _ _ _ => s.reg rn
  | .regReg _ _ _ => if rn = 15#4 then s.pc + 4#32 else s.reg rn

/-- The extra cycle of a register-specified shift (R193). -/
def shiftCycle : Operand2 → Nat
  | .imm _ _ => 0
  | .regImm _ _ _ => 0
  | .regReg _ _ _ => 1

/-- The 16-bit arithmetic and logic rows of formats 1 to 4 but MUL, and the compare of format 5, as data processing on
two operands: instruction, operation, destination, operands, shifter carry, internal cycles (R336 to R365, R372). -/
inductive ThumbDpRow : Instr → DpOp → Reg → (State → Word) → (State → Word) → (State → Bool) → Nat → Prop where
  | lslImm (f : TShift) : ThumbDpRow (.tLslImm f) .mov f.rd (fun _ => 0#32)
      (fun s => (shiftByImmediate .lsl (s.reg f.rs) f.offset5 s.c).value)
      (fun s => (shiftByImmediate .lsl (s.reg f.rs) f.offset5 s.c).carry) 0
  | lsrImm (f : TShift) : ThumbDpRow (.tLsrImm f) .mov f.rd (fun _ => 0#32)
      (fun s => (shiftByImmediate .lsr (s.reg f.rs) f.offset5 s.c).value)
      (fun s => (shiftByImmediate .lsr (s.reg f.rs) f.offset5 s.c).carry) 0
  | asrImm (f : TShift) : ThumbDpRow (.tAsrImm f) .mov f.rd (fun _ => 0#32)
      (fun s => (shiftByImmediate .asr (s.reg f.rs) f.offset5 s.c).value)
      (fun s => (shiftByImmediate .asr (s.reg f.rs) f.offset5 s.c).carry) 0
  | addReg (f : TAddSubReg) : ThumbDpRow (.tAddReg f) .add f.rd (·.reg f.rs) (·.reg f.rn) (·.c) 0
  | subReg (f : TAddSubReg) : ThumbDpRow (.tSubReg f) .sub f.rd (·.reg f.rs) (·.reg f.rn) (·.c) 0
  | addImm3 (f : TAddSubImm) :
    ThumbDpRow (.tAddImm3 f) .add f.rd (·.reg f.rs) (fun _ => f.offset3.setWidth 32) (·.c) 0
  | subImm3 (f : TAddSubImm) :
    ThumbDpRow (.tSubImm3 f) .sub f.rd (·.reg f.rs) (fun _ => f.offset3.setWidth 32) (·.c) 0
  | movImm8 (f : TImm8) : ThumbDpRow (.tMovImm8 f) .mov f.rd (fun _ => 0#32) (fun _ => f.offset8.setWidth 32) (·.c) 0
  | cmpImm8 (f : TImm8) : ThumbDpRow (.tCmpImm8 f) .cmp f.rd (·.reg f.rd) (fun _ => f.offset8.setWidth 32) (·.c) 0
  | addImm8 (f : TImm8) : ThumbDpRow (.tAddImm8 f) .add f.rd (·.reg f.rd) (fun _ => f.offset8.setWidth 32) (·.c) 0
  | subImm8 (f : TImm8) : ThumbDpRow (.tSubImm8 f) .sub f.rd (·.reg f.rd) (fun _ => f.offset8.setWidth 32) (·.c) 0
  | and (f : TAlu) : ThumbDpRow (.tAnd f) .and f.rd (·.reg f.rd) (·.reg f.rs) (·.c) 0
  | eor (f : TAlu) : ThumbDpRow (.tEor f) .eor f.rd (·.reg f.rd) (·.reg f.rs) (·.c) 0
  | lslReg (f : TAlu) : ThumbDpRow (.tLslReg f) .mov f.rd (fun _ => 0#32)
      (fun s => (shiftLsl (s.reg f.rd) ((s.reg f.rs).toNat % 256) s.c).value)
      (fun s => (shiftLsl (s.reg f.rd) ((s.reg f.rs).toNat % 256) s.c).carry) 1
  | lsrReg (f : TAlu) : ThumbDpRow (.tLsrReg f) .mov f.rd (fun _ => 0#32)
      (fun s => (shiftLsr (s.reg f.rd) ((s.reg f.rs).toNat % 256) s.c).value)
      (fun s => (shiftLsr (s.reg f.rd) ((s.reg f.rs).toNat % 256) s.c).carry) 1
  | asrReg (f : TAlu) : ThumbDpRow (.tAsrReg f) .mov f.rd (fun _ => 0#32)
      (fun s => (shiftAsr (s.reg f.rd) ((s.reg f.rs).toNat % 256) s.c).value)
      (fun s => (shiftAsr (s.reg f.rd) ((s.reg f.rs).toNat % 256) s.c).carry) 1
  | adc (f : TAlu) : ThumbDpRow (.tAdc f) .adc f.rd (·.reg f.rd) (·.reg f.rs) (·.c) 0
  | sbc (f : TAlu) : ThumbDpRow (.tSbc f) .sbc f.rd (·.reg f.rd) (·.reg f.rs) (·.c) 0
  | ror (f : TAlu) : ThumbDpRow (.tRor f) .mov f.rd (fun _ => 0#32)
      (fun s => (shiftRor (s.reg f.rd) ((s.reg f.rs).toNat % 256) s.c).value)
      (fun s => (shiftRor (s.reg f.rd) ((s.reg f.rs).toNat % 256) s.c).carry) 1
  | tst (f : TAlu) : ThumbDpRow (.tTst f) .tst f.rd (·.reg f.rd) (·.reg f.rs) (·.c) 0
  | neg (f : TAlu) : ThumbDpRow (.tNeg f) .rsb f.rd (·.reg f.rs) (fun _ => 0#32) (·.c) 0
  | cmpReg (f : TAlu) : ThumbDpRow (.tCmpReg f) .cmp f.rd (·.reg f.rd) (·.reg f.rs) (·.c) 0
  | cmn (f : TAlu) : ThumbDpRow (.tCmn f) .cmn f.rd (·.reg f.rd) (·.reg f.rs) (·.c) 0
  | orr (f : TAlu) : ThumbDpRow (.tOrr f) .orr f.rd (·.reg f.rd) (·.reg f.rs) (·.c) 0
  | bic (f : TAlu) : ThumbDpRow (.tBic f) .bic f.rd (·.reg f.rd) (·.reg f.rs) (·.c) 0
  | mvn (f : TAlu) : ThumbDpRow (.tMvn f) .mvn f.rd (fun _ => 0#32) (·.reg f.rs) (·.c) 0
  | cmpHi (f : THigh) : ThumbDpRow (.tCmpHi f) .cmp f.rd (·.reg f.rd) (·.reg f.rs) (·.c) 0

/-- The 16-bit register writes that touch no flag, formats 5, 12 and 13: instruction, destination, value (R371, R373,
R376 to R379). -/
inductive ThumbMoveRow : Instr → Reg → (State → Word) → Prop where
  | addHi (f : THigh) : ThumbMoveRow (.tAddHi f) f.rd (fun s => s.reg f.rd + s.reg f.rs)
  | movHi (f : THigh) : ThumbMoveRow (.tMovHi f) f.rd (·.reg f.rs)
  | addPc (f : TRdWord8) :
    ThumbMoveRow (.tAddPc f) f.rd (fun s => (s.pc &&& 0xFFFFFFFC#32) + BitVec.ofNat 32 (4 * f.word8.toNat))
  | addSp (f : TRdWord8) : ThumbMoveRow (.tAddSp f) f.rd (fun s => s.reg 13#4 + BitVec.ofNat 32 (4 * f.word8.toNat))
  | addSpImm7 (w : BitVec 7) :
    ThumbMoveRow (.tAddSpImm7 w) 13#4 (fun s => s.reg 13#4 + BitVec.ofNat 32 (4 * w.toNat))
  | subSpImm7 (w : BitVec 7) :
    ThumbMoveRow (.tSubSpImm7 w) 13#4 (fun s => s.reg 13#4 - BitVec.ofNat 32 (4 * w.toNat))

/-! ## Multiplication -/

/-- The 32-bit multiplies: instruction, condition, S, Rd, Rm, Rs, accumulate operand, internal cycles beyond `m`
(R253, R254, R363, R506). The multiplier is the last of the two factors. -/
inductive MulRow : Instr → Option Cond → Bool → Reg → Reg → Reg → (State → Nat) → Nat → Prop where
  | mul (f : MulForm) : MulRow (.mul f) (some f.cond) f.s f.rd f.rm f.rs (fun _ => 0) 0
  | mla (f : MulForm) : MulRow (.mla f) (some f.cond) f.s f.rd f.rm f.rs (fun s => (s.reg f.rn).toNat) 1
  | tMul (f : TAlu) : MulRow (.tMul f) none true f.rd f.rs f.rd (fun _ => 0) 0

/-- The long multiplies: instruction, fields, the exact product plus the accumulator, the multiplier cycles and the
internal cycles beyond them (R255 to R258, R506). -/
inductive MulLongRow : Instr → MulLong → (State → Int) → (State → Nat) → Prop where
  | umull (f : MulLong) : MulLongRow (.umull f) f (fun s => (s.reg f.rm).toNat * (s.reg f.rs).toNat)
      (fun s => multiplierCyclesUnsigned (s.reg f.rs) + 1)
  | umlal (f : MulLong) : MulLongRow (.umlal f) f
      (fun s => (s.reg f.rm).toNat * (s.reg f.rs).toNat + ((s.reg f.rdHi).toNat * 2 ^ 32 + (s.reg f.rdLo).toNat))
      (fun s => multiplierCyclesUnsigned (s.reg f.rs) + 2)
  | smull (f : MulLong) : MulLongRow (.smull f) f (fun s => (s.reg f.rm).toInt * (s.reg f.rs).toInt)
      (fun s => multiplierCyclesSigned (s.reg f.rs) + 1)
  | smlal (f : MulLong) : MulLongRow (.smlal f) f
      (fun s => (s.reg f.rm).toInt * (s.reg f.rs).toInt + ((s.reg f.rdHi).toNat * 2 ^ 32 + (s.reg f.rdLo).toNat))
      (fun s => multiplierCyclesSigned (s.reg f.rs) + 2)

/-! ## Branches -/

/-- An optional condition passes. -/
def HoldsOpt (s : State) : Option Cond → Prop
  | none => True
  | some c => Holds s c

/-- The branches without link: instruction, condition, byte offset (R118, R266, R135, R422, R137, R426). -/
inductive BranchRow : Instr → Option Cond → Int → Prop where
  | b (f : BranchForm) : BranchRow (.b f) (some f.cond) (4 * f.imm24.toInt)
  | eq (o : BitVec 8) : BranchRow (.tBeq o) (some .eq) (2 * o.toInt)
  | ne (o : BitVec 8) : BranchRow (.tBne o) (some .ne) (2 * o.toInt)
  | cs (o : BitVec 8) : BranchRow (.tBcs o) (some .cs) (2 * o.toInt)
  | cc (o : BitVec 8) : BranchRow (.tBcc o) (some .cc) (2 * o.toInt)
  | mi (o : BitVec 8) : BranchRow (.tBmi o) (some .mi) (2 * o.toInt)
  | pl (o : BitVec 8) : BranchRow (.tBpl o) (some .pl) (2 * o.toInt)
  | vs (o : BitVec 8) : BranchRow (.tBvs o) (some .vs) (2 * o.toInt)
  | vc (o : BitVec 8) : BranchRow (.tBvc o) (some .vc) (2 * o.toInt)
  | hi (o : BitVec 8) : BranchRow (.tBhi o) (some .hi) (2 * o.toInt)
  | ls (o : BitVec 8) : BranchRow (.tBls o) (some .ls) (2 * o.toInt)
  | ge (o : BitVec 8) : BranchRow (.tBge o) (some .ge) (2 * o.toInt)
  | lt (o : BitVec 8) : BranchRow (.tBlt o) (some .lt) (2 * o.toInt)
  | gt (o : BitVec 8) : BranchRow (.tBgt o) (some .gt) (2 * o.toInt)
  | le (o : BitVec 8) : BranchRow (.tBle o) (some .le) (2 * o.toInt)
  | tb (o : BitVec 11) : BranchRow (.tB o) none (2 * o.toInt)

/-- Branch and exchange of both encodings (R268, R374). -/
inductive ExchangeRow : Instr → Option Cond → Reg → Prop where
  | bx (f : BxForm) : ExchangeRow (.bx f) (some f.cond) f.rm
  | tBx (f : TBxForm) : ExchangeRow (.tBx f) none f.rs

/-! ## Single transfers -/

/-- The offset of a single transfer (R276, R284). -/
inductive Offset where
  | imm (v : Word)
  | reg (rm : Reg)
  | shifted (rm : Reg) (ty : ShiftType) (amount5 : BitVec 5)

/-- The offset's value (R276, R284). -/
def Offset.value (s : State) : Offset → Word
  | .imm v => v
  | .reg rm => s.reg rm
  | .shifted rm ty amount5 => (shiftByImmediate ty (s.reg rm) amount5 s.c).value

/-- A single transfer: condition, the bits P, U, W, the registers and the offset. -/
structure Transfer where
  cond   : Cond
  p      : Bool
  u      : Bool
  w      : Bool
  rn     : Reg
  rd     : Reg
  offset : Offset

/-- `offaddr` (R276). -/
def Transfer.offaddr (x : Transfer) (s : State) : Word :=
  if x.u then s.reg x.rn + x.offset.value s else s.reg x.rn - x.offset.value s

/-- `addr` (R276): pre-indexed or post-indexed. -/
def Transfer.addr (x : Transfer) (s : State) : Word := if x.p then x.offaddr s else s.reg x.rn

/-- `wback` (R276). -/
def Transfer.Wback (x : Transfer) : Prop := x.p = false ∨ x.w = true

/-- The transfer of an SDT word with an immediate offset (R109). -/
def sdtImm (p : Bool) (f : SdtImm) : Transfer := ⟨f.cond, p, f.u, f.w, f.rn, f.rd, .imm (f.offset12.setWidth 32)⟩

/-- The transfer of an SDT word with a shifted register offset (R109). -/
def sdtReg (p : Bool) (f : SdtReg) : Transfer := ⟨f.cond, p, f.u, f.w, f.rn, f.rd, .shifted f.rm f.ty f.amount5⟩

/-- The transfer of an HDT word with an immediate offset, `offHi : offLo` (R108). -/
def hdtImm (f : HdtImm) : Transfer :=
  ⟨f.cond, f.p, f.u, f.w, f.rn, f.rd, .imm (BitVec.ofNat 32 (16 * f.offHi.toNat + f.offLo.toNat))⟩

/-- The transfer of an HDT word with a register offset (R108). -/
def hdtReg (f : HdtReg) : Transfer := ⟨f.cond, f.p, f.u, f.w, f.rn, f.rd, .reg f.rm⟩

/-- The single loads of the 32-bit encoding and the read each makes (R65, R280 to R292). -/
inductive LoadRow : Instr → LoadKind → Transfer → Prop where
  | ldrImmPre (f : SdtImm) : LoadRow (.ldrImmPre f) .word (sdtImm true f)
  | ldrImmPost (f : SdtImm) : LoadRow (.ldrImmPost f) .word (sdtImm false f)
  | ldrtImm (f : SdtImm) : LoadRow (.ldrtImm f) .word (sdtImm false f)
  | ldrRegPre (f : SdtReg) : LoadRow (.ldrRegPre f) .word (sdtReg true f)
  | ldrRegPost (f : SdtReg) : LoadRow (.ldrRegPost f) .word (sdtReg false f)
  | ldrtReg (f : SdtReg) : LoadRow (.ldrtReg f) .word (sdtReg false f)
  | ldrbImmPre (f : SdtImm) : LoadRow (.ldrbImmPre f) .byte (sdtImm true f)
  | ldrbImmPost (f : SdtImm) : LoadRow (.ldrbImmPost f) .byte (sdtImm false f)
  | ldrbtImm (f : SdtImm) : LoadRow (.ldrbtImm f) .byte (sdtImm false f)
  | ldrbRegPre (f : SdtReg) : LoadRow (.ldrbRegPre f) .byte (sdtReg true f)
  | ldrbRegPost (f : SdtReg) : LoadRow (.ldrbRegPost f) .byte (sdtReg false f)
  | ldrbtReg (f : SdtReg) : LoadRow (.ldrbtReg f) .byte (sdtReg false f)
  | ldrhImm (f : HdtImm) : LoadRow (.ldrhImm f) .half (hdtImm f)
  | ldrhReg (f : HdtReg) : LoadRow (.ldrhReg f) .half (hdtReg f)
  | ldrsbImm (f : HdtImm) : LoadRow (.ldrsbImm f) .signedByte (hdtImm f)
  | ldrsbReg (f : HdtReg) : LoadRow (.ldrsbReg f) .signedByte (hdtReg f)
  | ldrshImm (f : HdtImm) : LoadRow (.ldrshImm f) .signedHalf (hdtImm f)
  | ldrshReg (f : HdtReg) : LoadRow (.ldrshReg f) .signedHalf (hdtReg f)

/-- The single stores of the 32-bit encoding and the write each makes (R65, R281, R283, R286, R288, R290). -/
inductive StoreRow : Instr → Width → Transfer → Prop where
  | strImmPre (f : SdtImm) : StoreRow (.strImmPre f) .word (sdtImm true f)
  | strImmPost (f : SdtImm) : StoreRow (.strImmPost f) .word (sdtImm false f)
  | strtImm (f : SdtImm) : StoreRow (.strtImm f) .word (sdtImm false f)
  | strRegPre (f : SdtReg) : StoreRow (.strRegPre f) .word (sdtReg true f)
  | strRegPost (f : SdtReg) : StoreRow (.strRegPost f) .word (sdtReg false f)
  | strtReg (f : SdtReg) : StoreRow (.strtReg f) .word (sdtReg false f)
  | strbImmPre (f : SdtImm) : StoreRow (.strbImmPre f) .byte (sdtImm true f)
  | strbImmPost (f : SdtImm) : StoreRow (.strbImmPost f) .byte (sdtImm false f)
  | strbtImm (f : SdtImm) : StoreRow (.strbtImm f) .byte (sdtImm false f)
  | strbRegPre (f : SdtReg) : StoreRow (.strbRegPre f) .byte (sdtReg true f)
  | strbRegPost (f : SdtReg) : StoreRow (.strbRegPost f) .byte (sdtReg false f)
  | strbtReg (f : SdtReg) : StoreRow (.strbtReg f) .byte (sdtReg false f)
  | strhImm (f : HdtImm) : StoreRow (.strhImm f) .half (hdtImm f)
  | strhReg (f : HdtReg) : StoreRow (.strhReg f) .half (hdtReg f)

/-- The 16-bit single loads: the read, Rd and the address (R391 to R412). -/
inductive ThumbLoadRow : Instr → LoadKind → Reg → (State → Word) → Prop where
  | ldrPc (f : TRdWord8) : ThumbLoadRow (.tLdrPc f) .word f.rd
      (fun s => (s.pc &&& 0xFFFFFFFC#32) + BitVec.ofNat 32 (4 * f.word8.toNat))
  | ldrReg (f : TRegOff) : ThumbLoadRow (.tLdrReg f) .word f.rd (fun s => s.reg f.rb + s.reg f.ro)
  | ldrbReg (f : TRegOff) : ThumbLoadRow (.tLdrbReg f) .byte f.rd (fun s => s.reg f.rb + s.reg f.ro)
  | ldsb (f : TRegOff) : ThumbLoadRow (.tLdsb f) .signedByte f.rd (fun s => s.reg f.rb + s.reg f.ro)
  | ldrhReg (f : TRegOff) : ThumbLoadRow (.tLdrhReg f) .half f.rd (fun s => s.reg f.rb + s.reg f.ro)
  | ldsh (f : TRegOff) : ThumbLoadRow (.tLdsh f) .signedHalf f.rd (fun s => s.reg f.rb + s.reg f.ro)
  | ldrImm (f : TImmOff) : ThumbLoadRow (.tLdrImm f) .word f.rd
      (fun s => s.reg f.rb + BitVec.ofNat 32 (4 * f.offset5.toNat))
  | ldrbImm (f : TImmOff) : ThumbLoadRow (.tLdrbImm f) .byte f.rd
      (fun s => s.reg f.rb + BitVec.ofNat 32 f.offset5.toNat)
  | ldrhImm (f : TImmOff) : ThumbLoadRow (.tLdrhImm f) .half f.rd
      (fun s => s.reg f.rb + BitVec.ofNat 32 (2 * f.offset5.toNat))
  | ldrSp (f : TRdWord8) : ThumbLoadRow (.tLdrSp f) .word f.rd
      (fun s => s.reg 13#4 + BitVec.ofNat 32 (4 * f.word8.toNat))

/-- The 16-bit single stores: the write, Rd and the address (R393 to R411). -/
inductive ThumbStoreRow : Instr → Width → Reg → (State → Word) → Prop where
  | strReg (f : TRegOff) : ThumbStoreRow (.tStrReg f) .word f.rd (fun s => s.reg f.rb + s.reg f.ro)
  | strbReg (f : TRegOff) : ThumbStoreRow (.tStrbReg f) .byte f.rd (fun s => s.reg f.rb + s.reg f.ro)
  | strhReg (f : TRegOff) : ThumbStoreRow (.tStrhReg f) .half f.rd (fun s => s.reg f.rb + s.reg f.ro)
  | strImm (f : TImmOff) : ThumbStoreRow (.tStrImm f) .word f.rd
      (fun s => s.reg f.rb + BitVec.ofNat 32 (4 * f.offset5.toNat))
  | strbImm (f : TImmOff) : ThumbStoreRow (.tStrbImm f) .byte f.rd
      (fun s => s.reg f.rb + BitVec.ofNat 32 f.offset5.toNat)
  | strhImm (f : TImmOff) : ThumbStoreRow (.tStrhImm f) .half f.rd
      (fun s => s.reg f.rb + BitVec.ofNat 32 (2 * f.offset5.toNat))
  | strSp (f : TRdWord8) : ThumbStoreRow (.tStrSp f) .word f.rd
      (fun s => s.reg 13#4 + BitVec.ofNat 32 (4 * f.word8.toNat))

/-- The value a store takes from a register: register 15 is the instruction's address + 12 (R278, R306; the parameter
`STORE_PC_OFFSET` = 12 of R9). -/
def storeValue (s : State) (r : Reg) : Word := if r = 15#4 then s.pc + 4#32 else s.reg r

/-- The bytes a store of width `w` of `v` at `a` writes, each with its value (R71). -/
def StoredByte (w : Width) (a v : Word) (c : Word) (b : Byte) : Prop :=
  ∃ j, j < w.bytes ∧ c = w.storeBase a + BitVec.ofNat 32 j ∧ b = v.extractLsb' (8 * j) 8

/-- Memory holds the written bytes and is otherwise unchanged (R71); the cache has lost exactly the entries whose granule
contains a written byte (R84). -/
def Stores (s t : State) (written : Word → Byte → Prop) : Prop :=
  (∀ a b, written a b → t.byteAt a = b) ∧
  (∀ a, (∀ b, ¬ written a b) → t.byteAt a = s.byteAt a) ∧
  (∀ e, e ∈ t.icacheArm ↔ e ∈ s.icacheArm ∧ ¬ ∃ a b, written a b ∧ (a &&& 0xFFFFFFFC#32).toNat = e.1) ∧
  (∀ e, e ∈ t.icacheThumb ↔ e ∈ s.icacheThumb ∧ ¬ ∃ a b, written a b ∧ (a &&& 0xFFFFFFFE#32).toNat = e.1)

/-! ## Block transfers -/

/-- The register is in the list (R300). -/
def InList (rlist : BitVec 16) (r : Reg) : Prop := rlist.getLsbD r.toNat = true

/-- The number of registers of a list (R301). -/
def listSize (rlist : BitVec 16) : Nat := ((List.range 16).filter fun k => rlist.getLsbD k).length

/-- The place of a register in its list: the number of listed registers below it (R301's `k`). -/
def rank (rlist : BitVec 16) (r : Reg) : Nat := ((List.range r.toNat).filter fun k => rlist.getLsbD k).length

/-- The first transfer address: R301's table. -/
def startAddress (p u : Bool) (base : Word) (n : Nat) : Word :=
  match p, u with
  | false, true => base
  | true, true => base + 4#32
  | false, false => base - BitVec.ofNat 32 (4 * n) + 4#32
  | true, false => base - BitVec.ofNat 32 (4 * n)

/-- The written-back value: R301's table. -/
def newBase (u : Bool) (base : Word) (n : Nat) : Word :=
  if u then base + BitVec.ofNat 32 (4 * n) else base - BitVec.ofNat 32 (4 * n)

/-- The bus address of a register's transfer: `(start + 4k) AND 0xFFFFFFFC` (R301, R302). -/
def slot (start : Word) (rlist : BitVec 16) (r : Reg) : Word :=
  (start + BitVec.ofNat 32 (4 * rank rlist r)) &&& 0xFFFFFFFC#32

/-- The bytes of a block store: one word per listed register (R300, R302). -/
def BlockBytes (start : Word) (rlist : BitVec 16) (value : Reg → Word) (c : Word) (b : Byte) : Prop :=
  ∃ r, InList rlist r ∧ StoredByte .word (slot start rlist r) (value r) c b

/-- The charge of `n` transfers from `start`: the first non-sequential, the others sequential (R503, R505). -/
def blockCharge (start : Word) (n : Nat) : Nat :=
  Config.waitN32 (start &&& 0xFFFFFFFC#32) +
    ((List.range (n - 1)).map fun k =>
      Config.waitS32 ((start + BitVec.ofNat 32 (4 * (k + 1))) &&& 0xFFFFFFFC#32)).sum

/-! ## Status -/

/-- The status fields other than the mode are those of the word `w` (R39). -/
def StatusFrom (t : State) (w : Word) : Prop :=
  t.n = w.getLsbD 31 ∧ t.z = w.getLsbD 30 ∧ t.c = w.getLsbD 29 ∧ t.v = w.getLsbD 28 ∧
  t.i = w.getLsbD 7 ∧ t.f = w.getLsbD 6 ∧ t.t = w.getLsbD 5

/-- The mode numbers of R30. -/
def modeNumber : Mode → BitVec 5
  | .usr => 0b10000#5
  | .fiq => 0b10001#5
  | .irq => 0b10010#5
  | .svc => 0b10011#5
  | .abt => 0b10111#5
  | .und => 0b11011#5
  | .sys => 0b11111#5

/-- The set of R8 to R12 a mode uses (R33). -/
def highSet : Mode → HighBank
  | .fiq => .fiq
  | .usr | .irq | .svc | .abt | .und | .sys => .other

/-- The two forms of MSR: instruction, condition, R, field mask, source operand (R317). -/
inductive MsrRow : Instr → Cond → Bool → FieldMask → (State → Word) → Prop where
  | reg (f : MsrReg) : MsrRow (.msrReg f) f.cond f.r f.mask (·.reg f.rm)
  | imm (f : MsrImm) :
    MsrRow (.msrImm f) f.cond f.r f.mask (fun _ => (f.imm8.setWidth 32).rotateRight (2 * f.rot.toNat))

/-- The five coprocessor classes (R324). -/
inductive CoprocessorRow : Instr → Prop where
  | cdp (f : CdoForm) : CoprocessorRow (.cdp f)
  | ldc (f : CdtForm) : CoprocessorRow (.ldc f)
  | stc (f : CdtForm) : CoprocessorRow (.stc f)
  | mcr (f : CrtForm) : CoprocessorRow (.mcr f)
  | mrc (f : CrtForm) : CoprocessorRow (.mrc f)

/-- The software interrupt of both encodings (R322, R424). -/
inductive SwiRow : Instr → Option Cond → Prop where
  | swi (f : SwiForm) : SwiRow (.swi f) (some f.cond)
  | tSwi (v : BitVec 8) : SwiRow (.tSwi v) none

/-! ## Where an instruction can stop -/

/-- A block transfer with an empty register list (R309, R415). -/
def EmptyList (i : Instr) : Prop :=
  (∃ f, (i = .ldm f ∨ i = .stm f) ∧ f.rlist = 0#16) ∨
  (∃ f, (i = .tPush f ∨ i = .tPop f) ∧ f.rlist = 0#8 ∧ f.r = false) ∨
  (∃ f, (i = .tStmia f ∨ i = .tLdmia f) ∧ f.rlist = 0#8)

/-- An exception return (R447): data processing with S = 1 and Rd = 15, or LDM with S and register 15. -/
def ReturnsFromException (i : Instr) : Prop :=
  (∃ op c rn form, DpRow i op c true rn 15#4 form ∧ isTest op = false) ∨
  (∃ f, i = .ldm f ∧ f.s = true ∧ InList f.rlist 15#4)

/-- An instruction that uses the saved status (R35, R440). -/
def UsesSavedStatus (i : Instr) : Prop :=
  (∃ f, i = .mrs f ∧ f.r = true) ∨ (∃ c mask op, MsrRow i c true mask op) ∨ ReturnsFromException i

/-- The instruction switches to the mode number `b` (R440's row BadMode, R318, R320): MSR to the control field in a
privileged mode, or an exception return. -/
def SwitchesTo (i : Instr) (s : State) (b : BitVec 5) : Prop :=
  (∃ c mask op, MsrRow i c false mask op ∧ mask.c = true ∧ s.mode ≠ .usr ∧ b = (op s).extractLsb' 0 5) ∨
  (ReturnsFromException i ∧ b = s.spsr.extractLsb' 0 5)

/-- An instruction that may write a flag: the table of R26. -/
def WritesFlags (i : Instr) : Prop :=
  (∃ op c rn rd form, DpRow i op c true rn rd form) ∨
  (∃ op c set rn rd form, DpRow i op c set rn rd form ∧ isTest op = true) ∨
  (∃ c set rd rm rs acc k, MulRow i c set rd rm rs acc k ∧ set = true) ∨
  (∃ f v k, MulLongRow i f v k ∧ f.s = true) ∨
  (∃ c mask op, MsrRow i c false mask op ∧ mask.f = true) ∨
  (∃ op rd a b c k, ThumbDpRow i op rd a b c k) ∨
  ReturnsFromException i

/-- An instruction that may write memory (R65). -/
def WritesMemory (i : Instr) : Prop :=
  (∃ w x, StoreRow i w x) ∨ (∃ w rd a, ThumbStoreRow i w rd a) ∨ (∃ f, i = .swp f ∨ i = .swpb f) ∨
  (∃ f, i = .stm f) ∨ (∃ f, i = .tPush f) ∨ (∃ f, i = .tStmia f)

/-- An instruction that may write I, F or the mode (R445, R457). -/
def WritesControl (i : Instr) : Prop :=
  (∃ c mask op, MsrRow i c false mask op ∧ mask.c = true) ∨ ReturnsFromException i ∨ (∃ c, SwiRow i c)

/-- An instruction that may write T (R27). -/
def WritesThumbBit (i : Instr) : Prop :=
  (∃ c rm, ExchangeRow i c rm) ∨ ReturnsFromException i ∨ (∃ c, SwiRow i c)

/-! ## Steps -/

/-- The bytes the next fetch reads, lowest address first (R63, R67, R85). -/
def fetchedBytes (s : State) : List Byte :=
  if s.t then [s.byteAt (s.pc - 2#32), s.byteAt (s.pc - 2#32 + 1#32)]
  else
    let k := (s.pc - 4#32) &&& 0xFFFFFFFC#32
    [s.byteAt k, s.byteAt (k + 1#32), s.byteAt (k + 2#32), s.byteAt (k + 3#32)]

/-- The state in which the operation of a step runs (R151, R153, R154): the PC advanced, `condPassed` set, the fetched
instruction's entry in the cache of the execution state, and nothing else changed. -/
def Advanced (s s1 : State) : Prop :=
  s1 = { s.setPc (s.pc + (if s.t then 2#32 else 4#32)) with
           condPassed := true, icacheArm := s1.icacheArm, icacheThumb := s1.icacheThumb } ∧
  (if s.t then s1.icacheArm = s.icacheArm ∧
      ∀ k, k ≠ (s.pc - 2#32).toNat → SortedMap.find k s1.icacheThumb = SortedMap.find k s.icacheThumb
   else s1.icacheThumb = s.icacheThumb ∧
      ∀ k, k ≠ ((s.pc - 4#32) &&& 0xFFFFFFFC#32).toNat → SortedMap.find k s1.icacheArm = SortedMap.find k s.icacheArm)

/-- The two states agree on everything but the cycle counter, `fetchNonSeq`, `condPassed` and the instruction cache. -/
def SameVisible (s s' : State) : Prop :=
  s'.x = s.x ∧ SameFlags s s' ∧ SameControl s s' ∧ SameBanks s s' ∧ s'.mem = s.mem ∧ s'.log = s.log

/-- The two results are of one kind and agree on the visible state. -/
def SameOutcome : Result → Result → Prop
  | .next s, .next s' => SameVisible s s'
  | .fault (.illegalInstruction w s), .fault (.illegalInstruction w' s') => w' = w ∧ SameVisible s s'
  | .fault (.invariantViolation k s), .fault (.invariantViolation k' s') => k' = k ∧ SameVisible s s'
  | .refused r, .refused r' => r' = r
  | _, _ => False

end Sys2Proof.Claims

open Sys2Proof Sys2Proof.Machine Sys2Proof.Claims

/-! ## Encoding -/

/-- Words written out in the instruction rules' own examples decode to the instructions they stand for (R217, R228,
R254, R268, R280, R289, R293, R303, R318, R322, R326, R338, R374, R416, R422, R431), and words named illegal do not
(R331). Rests on choices the spec or the model marks as its own: D1, D4, D10, D15, D31, D36. -/
def Obligations.DecodeSpecWords : Prop :=
  decodeArm 0xE25EF004#32 = some (.subImm ⟨.al, true, 14#4, 15#4, 0#4, 4#8⟩) ∧
  decodeArm 0xE1A00211#32 = some (.movRegReg ⟨.al, false, 0#4, 0#4, 2#4, .lsl, 1#4⟩) ∧
  decodeArm 0xE1B000A1#32 = some (.movRegImm ⟨.al, true, 0#4, 0#4, 1#5, .lsr, 1#4⟩) ∧
  decodeArm 0xE0203291#32 = some (.mla ⟨.al, false, 0#4, 3#4, 2#4, 1#4⟩) ∧
  decodeArm 0xE12FFF1E#32 = some (.bx ⟨.al, 14#4⟩) ∧
  decodeArm 0xE4910004#32 = some (.ldrImmPost ⟨.al, true, false, 1#4, 0#4, 4#12⟩) ∧
  decodeArm 0xE1D100B2#32 = some (.ldrhImm ⟨.al, true, true, false, 1#4, 0#4, 0#4, 2#4⟩) ∧
  decodeArm 0xE1020091#32 = some (.swp ⟨.al, 2#4, 0#4, 1#4⟩) ∧
  decodeArm 0xE8B00006#32 = some (.ldm ⟨.al, false, true, false, true, 0#4, 6#16⟩) ∧
  decodeArm 0xE328F20F#32 = some (.msrImm ⟨.al, false, ⟨true, false, false, false⟩, 2#4, 0x0F#8⟩) ∧
  decodeArm 0xEF000000#32 = some (.swi ⟨.al, 0#24⟩) ∧
  decodeArm 0xED900100#32 = some (.ldc ⟨.al, true, true, false, false, 0#4, 0#4, 1#4, 0#8⟩) ∧
  decodeThumb 0x105A#16 = some (.tAsrImm ⟨1#5, 3#4, 2#4⟩) ∧
  decodeThumb 0x4770#16 = some (.tBx ⟨14#4⟩) ∧
  decodeThumb 0xB510#16 = some (.tPush ⟨true, 0x10#8⟩) ∧
  decodeThumb 0xD1FE#16 = some (.tBne 0xFE#8) ∧
  decodeThumb 0xF000#16 = some (.tBlHi 0#11) ∧
  decodeArm 0xE7F000F0#32 = none ∧ decodeArm 0x07F000F0#32 = none ∧ decodeThumb 0xDE00#16 = none

/-- Decoding the encoding of any well-formed instruction gives the instruction back, with every field at every value.
Rests on choices the spec or the model marks as its own: D1, D20. -/
def Obligations.DecodeEncode : Prop :=
  ∀ i : Instr, i.wellFormed = true → decode (encode i) = some i

/-- A word has one meaning, and it keeps every bit: what a word decodes to is well-formed and encodes to that word.
Rests on choices the spec or the model marks as its own: D1, D20. -/
def Obligations.EncodeDecode : Prop :=
  ∀ (e : Encoding) (i : Instr), decode e = some i → i.wellFormed = true ∧ encode i = e

/-- R149: a decodable word matches the row of its instruction and no other row; a word that matches no row is
undecodable. Rests on choices the spec or the model marks as its own: D1, D10, D20, D31. -/
def Obligations.RowsMatchExactly : Prop :=
  ∀ e : Encoding,
    (∀ i j : Instr, i.tableRow.matches e = true → j.tableRow.matches e = true → i.tableRow = j.tableRow) ∧
    (∀ i : Instr, decode e = some i → i.tableRow.matches e = true) ∧
    (decode e = none ↔ ∀ i : Instr, i.tableRow.matches e = false)

/-- R116 and R139: the undecodable patterns of both encodings, and no others. Rests on choices the spec or the model
marks as its own: D1, D10, D20, D31. -/
def Obligations.UndecodablePatterns : Prop :=
  (∀ h : Half, decodeThumb h = none ↔
    ((0xB100 ≤ h.toNat ∧ h.toNat ≤ 0xB3FF) ∨ (0xB600 ≤ h.toNat ∧ h.toNat ≤ 0xBBFF) ∨
     (0xBE00 ≤ h.toNat ∧ h.toNat ≤ 0xBFFF) ∨ (0xDE00 ≤ h.toNat ∧ h.toNat ≤ 0xDEFF) ∨
     (0xE800 ≤ h.toNat ∧ h.toNat ≤ 0xEFFF) ∨
     (0x4700 ≤ h.toNat ∧ h.toNat ≤ 0x47FF ∧ (h.getLsbD 7 = true ∨ h.extractLsb' 0 3 ≠ 0#3)))) ∧
  (∀ w : Word, decodeArm w = none ↔
    ((w.extractLsb' 25 3 = 0b000#3 ∧ w.extractLsb' 4 4 = 0b1001#4 ∧ w.extractLsb' 22 3 = 0b001#3) ∨
     (w.extractLsb' 24 4 = 0b0001#4 ∧ w.extractLsb' 4 4 = 0b1001#4 ∧ w &&& 0x0FB00FF0#32 ≠ 0x01000090#32) ∨
     (w.extractLsb' 25 3 = 0b000#3 ∧ w.getLsbD 7 = true ∧ w.getLsbD 4 = true ∧ w.getLsbD 20 = false ∧
       w.getLsbD 6 = true) ∨
     (w.extractLsb' 26 2 = 0b00#2 ∧ w.extractLsb' 23 2 = 0b10#2 ∧ w.getLsbD 20 = false ∧
       ¬ (w.getLsbD 25 = false ∧ w.getLsbD 7 = true ∧ w.getLsbD 4 = true) ∧
       w &&& 0x0FBF0FFF#32 ≠ 0x010F0000#32 ∧ w &&& 0x0FB0FFF0#32 ≠ 0x0120F000#32 ∧
       w &&& 0x0FB0F000#32 ≠ 0x0320F000#32 ∧ w &&& 0x0FFFFFF0#32 ≠ 0x012FFF10#32) ∨
     (w.extractLsb' 25 3 = 0b011#3 ∧ w.getLsbD 4 = true)))

/-! ## The step -/

/-- When the bytes at the next fetch decode to an instruction, the step advances the PC, runs `exec` of that
instruction and finishes with the write-PC path (R151 to R158, R160); the hand-off after it changes nothing, and
neither touches memory. Rests on choices the spec or the model marks as its own: D2, D3 and log 1 (the reference
memory the bytes are fetched from), D4 (bits 1:0 dropped by the ARM fetch), log 8 (the hand-off changes nothing), D25
and log 12 (every other cache entry is kept). -/
def Obligations.StepRunsDecodedInstruction : Prop :=
  (∀ (s : State) (i : Instr) (rest : List Byte), s.Inv →
    decodeBytes s.execState (fetchedBytes s) = .ok (i, rest) →
    ∃ s1, Advanced s s1 ∧ step s = Result.andThen (exec i s1) fun t => .next (t.finish i.writesPC)) ∧
  ∀ (t : State) (w : Bool), t.finish w = t.writePcPath w ∧ SameMemory t (t.finish w)

/-- When the bytes at the next fetch decode to nothing, the step ends in `IllegalInstruction` with the word, whatever
its condition field; nothing is charged, and the state left behind is the advanced one (R102, R331, R450, R453). Rests
on choices the spec or the model marks as its own: D10, D26; D2, D3 and log 1 (the memory fetched from), D4, log 11,
D25 and log 12 (every other cache entry is kept), log 22. -/
def Obligations.UndecodableWordFaults : Prop :=
  ∀ (s : State) (st : ExecState) (w : Word), s.Inv →
    decodeBytes s.execState (fetchedBytes s) = .error (.illegal st w) →
    ∃ s1, Advanced s s1 ∧ step s = .fault (.illegalInstruction w s1)

/-- R157: the write-PC path. A passed PC write is realigned, charged the refill at the new PC and advanced by the
width of the new `T`, so that the next step fetches at the realigned value; a failed one makes the next fetch
non-sequential; any other operation's state stands. What the refill charges stands in CyclesNeverDecrease. -/
def Obligations.WritePcPath : Prop :=
  ∀ s : State,
    s.writePcPath false = s ∧
    (s.condPassed = false → s.writePcPath true = { s with fetchNonSeq := true }) ∧
    (s.condPassed = true →
      let p := s.pc &&& 0xFFFFFFFE#32
      let t := s.writePcPath true
      t.pc = p + (if s.t then 2#32 else 4#32) ∧ t.fetchAddress = p ∧
      t.cycles = (s.refillCost p).cycles ∧ t.fetchNonSeq = (s.refillCost p).fetchNonSeq ∧ t.condPassed = true ∧
      SameRegsBut s t (· = 15#4) ∧ SameFlags s t ∧ SameRest s t ∧ ∀ a : Word, t.byteAt a = s.byteAt a)

/-- R24: over a step the PC moves on by the width, or, when the instruction can write the PC and its condition passed,
to the written value with bit 0 cleared plus the new width; bit 0 stays 0. Rests on choices the spec or the model
marks as its own: D2, D3 and log 1 (the memory fetched from), D4, D32, log 8 (the hand-off changes nothing), log 12
(no cache entry is lost but to invalidation). -/
def Obligations.PcAfterStep : Prop :=
  ∀ s t : State, s.Inv → step s = .next t →
    ∃ (i : Instr) (s1 u : State), Advanced s s1 ∧ decodeBytes s.execState (fetchedBytes s) = .ok (i, []) ∧
      exec i s1 = .next u ∧
      (i.writesPC = false ∨ u.condPassed = false → t.pc = s.pc + (if s.t then 2#32 else 4#32)) ∧
      (i.writesPC = true → u.condPassed = true →
        t.pc = (u.pc &&& 0xFFFFFFFE#32) + (if u.t then 2#32 else 4#32)) ∧
      t.pc.getLsbD 0 = false

/-- A failed condition charges the fetch, clears `condPassed` and does nothing else, in every conditional instruction
of both encodings (R156). Rests on choices the spec or the model marks as its own: D12 (pattern 15 never fails), D34,
log 12 (no cache entry is lost but to invalidation), D24 (the charges). -/
def Obligations.FailedConditionDoesNothing : Prop :=
  ∀ (i : Instr) (c : Cond) (s : State), condition i = some c → ¬ Holds s c →
    ∃ t, exec i s = .next t ∧ SameRegsBut s t (fun _ => False) ∧ SameFlags s t ∧ SameRest s t ∧ SameMemory s t ∧
      t.cycles = s.cycles + fetchCharge s ∧ t.fetchNonSeq = false ∧ t.condPassed = false

/-- R181, R183: the sixteen condition patterns by number, pattern 15 as this hardware's `COND15` = `always`. Rests on
choices the spec or the model marks as its own: D12 (COND15 = always, log 15) and the numbering of the predicates,
which the spec marks as general knowledge. -/
def Obligations.ConditionTable : Prop :=
  ∀ s : State,
    (s.conditionPassed (Cond.ofBits 0#4) = true ↔ s.z = true) ∧
    (s.conditionPassed (Cond.ofBits 1#4) = true ↔ s.z = false) ∧
    (s.conditionPassed (Cond.ofBits 2#4) = true ↔ s.c = true) ∧
    (s.conditionPassed (Cond.ofBits 3#4) = true ↔ s.c = false) ∧
    (s.conditionPassed (Cond.ofBits 4#4) = true ↔ s.n = true) ∧
    (s.conditionPassed (Cond.ofBits 5#4) = true ↔ s.n = false) ∧
    (s.conditionPassed (Cond.ofBits 6#4) = true ↔ s.v = true) ∧
    (s.conditionPassed (Cond.ofBits 7#4) = true ↔ s.v = false) ∧
    (s.conditionPassed (Cond.ofBits 8#4) = true ↔ s.c = true ∧ s.z = false) ∧
    (s.conditionPassed (Cond.ofBits 9#4) = true ↔ s.c = false ∨ s.z = true) ∧
    (s.conditionPassed (Cond.ofBits 10#4) = true ↔ s.n = s.v) ∧
    (s.conditionPassed (Cond.ofBits 11#4) = true ↔ s.n ≠ s.v) ∧
    (s.conditionPassed (Cond.ofBits 12#4) = true ↔ s.z = false ∧ s.n = s.v) ∧
    (s.conditionPassed (Cond.ofBits 13#4) = true ↔ s.z = true ∨ s.n ≠ s.v) ∧
    (s.conditionPassed (Cond.ofBits 14#4) = true ↔ True) ∧
    (s.conditionPassed (Cond.ofBits 15#4) = true ↔ True) ∧
    ∀ c : Cond, s.conditionPassed c = true ↔ Holds s c

/-! ## Stops -/

/-- R452, R440, R449: where an instruction stops and where it completes. With its condition passed it is refused
exactly when its register list is empty; it raises NoSPSR exactly when it uses the saved status in User or System
mode; BadMode exactly when it then switches to a number that is no mode; and in every other case it completes. Rests
on choices the spec or the model marks as its own: D6, D10, D15, D16, D22; log 7. -/
def Obligations.StopsExactly : Prop :=
  ∀ (i : Instr) (s : State), Passes i s →
    (EmptyList i → exec i s = .refused .emptyRegisterList) ∧
    (¬ EmptyList i → UsesSavedStatus i → (s.mode = .usr ∨ s.mode = .sys) →
      ∃ l, exec i s = .fault (.invariantViolation .noSpsr l)) ∧
    (¬ EmptyList i → (UsesSavedStatus i → s.mode ≠ .usr ∧ s.mode ≠ .sys) →
      ((∃ b, SwitchesTo i s b ∧ ∀ m, modeNumber m ≠ b) → ∃ l, exec i s = .fault (.invariantViolation .badMode l)) ∧
      ((∀ b, SwitchesTo i s b → ∃ m, modeNumber m = b) → ∃ t, exec i s = .next t))

/-- R453: what a fault has done by the point of the raise. But for BadMode from LDM nothing is written, in registers,
flags, status or memory, and the fetch is charged and the internal cycle of a register-specified shift. BadMode from
LDM has charged its transfers too, has written back its base and loaded registers 0 to 14, and written neither the
status nor the loaded PC, nor charged its last internal cycle. Rests on choices the spec or the model marks as its
own: D2, D3, D14, D15, D16, D24, D26, D34; log 1 (the loaded words) and log 11; log 12 (no cache entry is lost but to
invalidation). -/
def Obligations.StateLeftByFault : Prop :=
  ∀ (i : Instr) (s l : State) (k : InvariantKind), exec i s = .fault (.invariantViolation k l) →
    SameFlags s l ∧ SameRest s l ∧ SameMemory s l ∧
    (k = .noSpsr ∨ (∀ f, i ≠ .ldm f) → SameRegsBut s l (fun _ => False)) ∧
    (∀ op c rn form, DpRow i op c true rn 15#4 form → Charged s l (shiftCycle form) false) ∧
    ((∀ op c rn form, ¬ DpRow i op c true rn 15#4 form) → k = .noSpsr ∨ (∀ f, i ≠ .ldm f) → Charged s l 0 false) ∧
    (∀ f, i = .ldm f → k = .badMode →
      Charged s l (blockCharge (startAddress f.p f.u (s.reg f.rn) (listSize f.rlist)) (listSize f.rlist)) true ∧
      SameRegsBut s l (fun r => (InList f.rlist r ∧ r ≠ 15#4) ∨ (f.w = true ∧ r = f.rn)) ∧
      (∀ r, InList f.rlist r → r ≠ 15#4 →
        l.reg r = s.wordAt (slot (startAddress f.p f.u (s.reg f.rn) (listSize f.rlist)) f.rlist r)) ∧
      (f.w = true → ¬ (InList f.rlist f.rn ∧ f.rn ≠ 15#4) → l.reg f.rn = newBase f.u (s.reg f.rn) (listSize f.rlist)))

/-! ## Whole-machine rules -/

/-- R26, R27, R65, R140, R445, R455: only the instructions the tables list write a flag, T, I, F or the mode, memory,
the log, and, among those with an encoding, only those whose write-PC flag is true write the PC or change T. Rests on
choices the spec or the model marks as its own: D1, D10, D23, D32, D35; log 1 (a read changes nothing) and log 12 (no
entry is lost but to invalidation). -/
def Obligations.OnlyListedInstructionsWrite : Prop :=
  ∀ (i : Instr) (s t : State), exec i s = .next t →
    (¬ WritesFlags i → SameFlags s t) ∧
    (¬ WritesMemory i → SameMemory s t) ∧
    (¬ WritesControl i → t.i = s.i ∧ t.f = s.f ∧ t.mode = s.mode) ∧
    (¬ WritesThumbBit i → t.t = s.t) ∧
    (¬ CoprocessorRow i → t.log = s.log) ∧
    (i.wellFormed = true → i.writesPC = false → t.pc = s.pc ∧ t.t = s.t)

/-- R445, R457, R320: no step leaves User mode but one that runs a software interrupt. A step from User mode that
answers a next state either leaves the mode, I, F, the saved status and every privileged bank as they were, or is the
software interrupt, which enters Supervisor mode with I set, in ARM state, at the SWI vector, with the old status
saved and the next instruction's address in R14_svc. Rests on choices the spec or the model marks as its own: D6, D7,
D9, D10, D14, D17, D18, log 8 (the hand-off changes nothing) and log 9 (no interrupt inside a step). -/
def Obligations.UserModeIsOneWay : Prop :=
  ∀ s t : State, s.Inv → s.mode = .usr → step s = .next t →
    (t.mode = .usr ∧ t.i = s.i ∧ t.f = s.f ∧ SameBanks s t) ∨
    (t.mode = .svc ∧ t.i = true ∧ t.f = s.f ∧ t.t = false ∧ t.pc = 0x0000000C#32 ∧
      t.spsr = s.packStatus ∧ t.reg 14#4 = s.pc ∧
      (∀ m r, r ≠ 15#4 → ¬ (m = .svc ∧ r = 14#4) → t.view m r = s.view m r) ∧
      (∀ m, m ≠ .svc → t.viewSpsr m = s.viewSpsr m) ∧ SameFlags s t)

/-- The invariant of a step boundary is kept by every step: memory in canonical form, the cache well-formed and
coherent with memory (R80, R86), the reserved bits of every saved status zero (R35), bit 0 of the PC zero (R24). Rests
on choices the spec or the model marks as its own: D4, D17, log 1, log 8 and log 12, and on what an unlisted byte
reads as only through the canonical form (log 2). -/
def Obligations.StepKeepsInvariant : Prop :=
  ∀ s t : State, s.Inv → step s = .next t → t.Inv

/-- The reset state meets the invariant. Rests on choices the spec or the model marks as its own: D11; log 2, log 4,
log 5 and log 6. -/
def Obligations.ResetMeetsInvariant : Prop := State.reset.Inv

/-- R482, R453: every event of the outside world keeps the invariant: interrupts, reset, other agents' writes, persist
loads. A fault leaves memory in its canonical form, events on a faulted machine keep it so, and only a reset or a
persist load makes the machine live again, in a state that meets the invariant. A run that steps a faulted machine, or
asks it for an interrupt, is refused whatever follows (U27). Rests on choices the spec or the model marks as its own:
D4, D11, D17, D26; log 1, log 2, log 8, log 9, log 11, log 12, log 18, log 19 and log 24. -/
def Obligations.EventsKeepInvariant : Prop :=
  (∀ (e : Event) (s t : State), s.Inv → react e s = .next t → t.Inv) ∧
  (∀ (e : Event) (s : State) (f : Fault), s.Inv → react e s = .fault f → Memory.wf f.left.mem) ∧
  (∀ (e : Event) (f f' : Fault), Memory.wf f.left.mem → reactFaulted e f = .fault f' → Memory.wf f'.left.mem) ∧
  (∀ (e : Event) (f : Fault) (t : State), Memory.wf f.left.mem → reactFaulted e f = .next t →
    ((∃ entry, e = .reset entry) ∨ ∃ p, e = .load p) ∧ t.Inv) ∧
  ∀ (f : Fault) (events : List Event),
    Result.reactAll (.fault f) (.step :: events) = .refused .faultedMachine ∧
    Result.reactAll (.fault f) (.raiseInterrupt :: events) = .refused .faultedMachine

/-- R46, R508: no step lets a program observe the instruction cache, the cycle counter, `fetchNonSeq` or the last
step's `condPassed`: from two states that agree on the rest, the outcomes agree on the rest. Rests on choices the spec
or the model marks as its own: D24, D25, D34, log 1 (all memory is plain RAM, so no load reads the counter), log 8
(the hand-off changes nothing) and log 12. -/
def Obligations.HiddenStateIsUnobservable : Prop :=
  ∀ s s' : State, s.Inv → s'.Inv → SameVisible s s' → SameOutcome (step s) (step s')

/-- R45, R500, R502: `cycles` is never rolled back by an instruction, every instruction that answers a next state has
charged at least its fetch, and the refill charges a non-sequential and a sequential fetch of the new execution state
and nothing else. Rests on choices the spec or the model marks as its own: D24, D34; log 3. -/
def Obligations.CyclesNeverDecrease : Prop :=
  (∀ (i : Instr) (s t : State), exec i s = .next t → s.cycles + fetchCharge s ≤ t.cycles) ∧
  ∀ (s : State) (p : Word),
    s.refillCost p =
      { s with
        cycles := s.cycles +
          (if s.t then Config.waitN16 p + Config.waitS16 (p + 2#32) else Config.waitN32 p + Config.waitS32 (p + 4#32))
        fetchNonSeq := false }

/-! ## Registers, modes and status -/

/-- R13: `AddWithCarry` and the subtraction built on it. Rests on choices the spec or the model marks as its own: the
primitive AddWithCarry, which the spec marks as general knowledge. -/
def Obligations.AddWithCarryIsExact : Prop :=
  ∀ (a b : Word) (c : Bool),
    let r := addWithCarry a b c
    r.value.toNat = (a.toNat + b.toNat + c.toNat) % 2 ^ 32 ∧
    (r.carry = true ↔ 2 ^ 32 ≤ a.toNat + b.toNat + c.toNat) ∧
    (r.overflow = true ↔ a.toInt + b.toInt + (c.toNat : Int) ≠ r.value.toInt) ∧
    (addWithCarry a (~~~b) true).value = a - b ∧
    ((addWithCarry a (~~~b) true).carry = true ↔ b.toNat ≤ a.toNat) ∧
    ((addWithCarry a (~~~b) true).overflow = true ↔
      ¬ (-(2 ^ 31 : Int) ≤ a.toInt - b.toInt ∧ a.toInt - b.toInt < 2 ^ 31))

/-- R186, R187, R188, R190: LSL, LSR and ASR at every amount and RRX, the carry as the last bit shifted out of a wider
value. ROR stands in OperandForms. -/
def Obligations.ShifterShifts : Prop :=
  ∀ (v : Word) (n : Nat) (c : Bool),
    (shiftLsl v 0 c = ⟨v, c⟩ ∧ shiftLsr v 0 c = ⟨v, c⟩ ∧ shiftAsr v 0 c = ⟨v, c⟩) ∧
    (0 < n →
      shiftLsl v n c = ⟨v <<< n, (v.setWidth 33 <<< n).getLsbD 32⟩ ∧
      shiftLsr v n c = ⟨v >>> n, (v >>> (n - 1)).getLsbD 0⟩ ∧
      shiftAsr v n c = ⟨v.sshiftRight n, (v.sshiftRight (n - 1)).getLsbD 0⟩) ∧
    (let wide : BitVec 33 := (if c then 1#1 else 0#1) ++ v
     (shiftRrx v c).value = (wide.rotateRight 1).setWidth 32 ∧ (shiftRrx v c).carry = (wide.rotateRight 1).getLsbD 32)

/-- R189, R191 to R193, R214: the three operand forms and what they read, and the rotate at every amount. Rests on
choices the spec or the model marks as its own: D19, D33. -/
def Obligations.OperandForms : Prop :=
  ∀ (s : State) (rot : BitVec 4) (imm8 : Byte) (rm rs : Reg) (n : BitVec 5),
    (let v := (imm8.setWidth 32).rotateRight (2 * rot.toNat)
     Operand2.eval (.imm rot imm8) s = ⟨v, if rot = 0#4 then s.c else v.getLsbD 31⟩) ∧
    (Operand2.eval (.regImm rm .lsl 0#5) s = ⟨s.reg rm, s.c⟩ ∧
     Operand2.eval (.regImm rm .lsr 0#5) s = shiftLsr (s.reg rm) 32 s.c ∧
     Operand2.eval (.regImm rm .asr 0#5) s = shiftAsr (s.reg rm) 32 s.c ∧
     Operand2.eval (.regImm rm .ror 0#5) s = shiftRrx (s.reg rm) s.c) ∧
    (n ≠ 0#5 →
     Operand2.eval (.regImm rm .lsl n) s = shiftLsl (s.reg rm) n.toNat s.c ∧
     Operand2.eval (.regImm rm .lsr n) s = shiftLsr (s.reg rm) n.toNat s.c ∧
     Operand2.eval (.regImm rm .asr n) s = shiftAsr (s.reg rm) n.toNat s.c ∧
     Operand2.eval (.regImm rm .ror n) s = shiftRor (s.reg rm) n.toNat s.c) ∧
    (let v := if rm = 15#4 then s.pc + 4#32 else s.reg rm
     let k := (if rs = 15#4 then s.pc + 4#32 else s.reg rs).toNat % 256
     Operand2.eval (.regReg rm .lsl rs) s = shiftLsl v k s.c ∧
     Operand2.eval (.regReg rm .lsr rs) s = shiftLsr v k s.c ∧
     Operand2.eval (.regReg rm .asr rs) s = shiftAsr v k s.c ∧
     Operand2.eval (.regReg rm .ror rs) s = shiftRor v k s.c) ∧
    ∀ (v : Word) (k : Nat) (c : Bool),
      shiftRor v k c = ⟨v.rotateRight k, if k = 0 then c else (v.rotateRight k).getLsbD 31⟩

/-- R38, R40: every bit of the packed status word. Rests on choices the spec or the model marks as its own: D6, D17.
-/
def Obligations.PackStatusBits : Prop :=
  ∀ s : State,
    s.packStatus.getLsbD 31 = s.n ∧ s.packStatus.getLsbD 30 = s.z ∧ s.packStatus.getLsbD 29 = s.c ∧
    s.packStatus.getLsbD 28 = s.v ∧ s.packStatus.getLsbD 7 = s.i ∧ s.packStatus.getLsbD 6 = s.f ∧
    s.packStatus.getLsbD 5 = s.t ∧ s.packStatus.extractLsb' 0 5 = modeNumber s.mode ∧
    ∀ k, 8 ≤ k → k < 28 → s.packStatus.getLsbD k = false

/-- R39: unpacking a status word fails exactly on a number that is no mode; otherwise it switches to that mode, loads
every other field, ignores bits 27:8 and keeps every mode's registers and saved status; unpacking the current status
word changes nothing. Rests on choices the spec or the model marks as its own: D6 (the mode numbers), D14, D15 (a
number that is no mode), D17 (the ignored bits), the spec's own derivation of R37 (what each mode sees), and the round
trip, read from R38 and R39 together, log 12 (no cache entry is lost but to invalidation). -/
def Obligations.UnpackStatusLoads : Prop :=
  ∀ (s : State) (w : Word),
    s.unpackStatus s.packStatus = some s ∧
    ((∀ m, modeNumber m ≠ w.extractLsb' 0 5) → s.unpackStatus w = none) ∧
    (∀ m, modeNumber m = w.extractLsb' 0 5 →
      ∃ t, s.unpackStatus w = some t ∧ t.mode = m ∧ StatusFrom t w ∧ SameViewsBut s t (fun _ _ => False) ∧
        SameMemory s t ∧ t.cycles = s.cycles ∧ t.log = s.log) ∧
    ∀ w' : Word, w' &&& 0xF00000FF#32 = w &&& 0xF00000FF#32 → s.unpackStatus w' = s.unpackStatus w

/-- R36: `SwitchMode`. To the current mode it changes nothing, to a number that is no mode it is BadMode; to another
mode it sets the mode, between two banks exchanges R13, R14 and the saved status with their storage, and R8 to R12
when one of the two modes is FIQ, and touches nothing else. Rests on choices the spec or the model marks as its own:
D6 (the mode numbers), D14 (the exchange of R8 to R12 with FIQ), D15 (BadMode), log 12 (no cache entry is lost but to
invalidation). -/
def Obligations.SwitchModeRules : Prop :=
  ∀ (s : State) (b : BitVec 5),
    s.switchMode (modeNumber s.mode) = some s ∧
    ((∀ m, modeNumber m ≠ b) → s.switchMode b = none) ∧
    (∀ m, modeNumber m = b →
      ∃ t, s.switchMode b = some t ∧ t.mode = m ∧ SameFlags s t ∧ t.i = s.i ∧ t.f = s.f ∧ t.t = s.t ∧
        (∀ r : Reg, r.toNat ≤ 7 ∨ r = 15#4 → t.reg r = s.reg r) ∧ SameMemory s t ∧ t.cycles = s.cycles ∧
        t.fetchNonSeq = s.fetchNonSeq ∧ t.condPassed = s.condPassed ∧ t.log = s.log ∧
        (m.bank = s.mode.bank → t.x = s.x ∧ SameBanks s t) ∧
        (m.bank ≠ s.mode.bank →
          t.reg 13#4 = (s.shadow.get m.bank).r13 ∧ t.reg 14#4 = (s.shadow.get m.bank).r14 ∧
          t.spsr = (s.shadow.get m.bank).spsr ∧
          t.shadow.get s.mode.bank = ⟨s.reg 13#4, s.reg 14#4, s.spsr⟩ ∧
          (∀ k, k ≠ s.mode.bank → t.shadow.get k = s.shadow.get k) ∧
          (m ≠ .fiq → s.mode ≠ .fiq →
            t.shadow8_12 = s.shadow8_12 ∧ ∀ r : Reg, 8 ≤ r.toNat → r.toNat ≤ 12 → t.reg r = s.reg r) ∧
          (m = .fiq ∨ s.mode = .fiq →
            (∀ k : Fin 5, t.reg (BitVec.ofNat 4 (8 + k)) = (s.shadow8_12.get (highSet m))[k] ∧
              (t.shadow8_12.get (highSet s.mode))[k] = s.reg (BitVec.ofNat 4 (8 + k))) ∧
            ∀ h, h ≠ highSet s.mode → t.shadow8_12.get h = s.shadow8_12.get h)))

/-- R37: 37 physical registers. A mode switch changes no register of any mode as that mode sees it, nor any saved
status; the live registers are those the current mode sees; and in two modes that do not share it, a write to a banked
register leaves the other's alone. Rests on choices the spec or the model marks as its own: the spec's own derivation
of R37 from R31 to R36, and D14. -/
def Obligations.RegisterViewByMode : Prop :=
  ∀ (s : State) (m m' : Mode) (r : Reg) (v : Word),
    (s.switchModeTo m').view m r = s.view m r ∧ (s.switchModeTo m').viewSpsr m = s.viewSpsr m ∧
    s.reg r = s.view s.mode r ∧ s.spsr = s.viewSpsr s.mode ∧
    (SamePhysical m s.mode r → (s.setReg r v).view m r = v) ∧
    (¬ SamePhysical m s.mode r → (s.setReg r v).view m r = s.view m r)

/-! ## Memory -/

/-- R71, R84: a store writes its bytes at the aligned address and no other, and removes exactly the cache entries that
cover them. Rests on choices the spec or the model marks as its own: the reference memory agent, the spec's own choice
(D2, D3; log 1), and log 12 (no entry is lost but to invalidation, reset or load, where R84 lets an implementation
remove more; D25). -/
def Obligations.StoreWritesItsBytes : Prop :=
  ∀ (s : State) (w : Width) (a v : Word), Stores s (s.memWrite w a v) (StoredByte w a v)

/-- R67: mixed-width reads of a stored word, and R69's lanes of a misaligned word read. Rests on choices the spec or
the model marks as its own: the reference memory agent, the spec's own choice (D2, D3; log 1). -/
def Obligations.StoreThenLoad : Prop :=
  ∀ (s : State) (a v : Word), a &&& 3#32 = 0#32 →
    let t := s.memWrite .word a v
    t.memRead .word a = v ∧ t.memRead .word (a + 1#32) = v.rotateRight 8 ∧
    t.memRead .word (a + 2#32) = v.rotateRight 16 ∧ t.memRead .word (a + 3#32) = v.rotateRight 24 ∧
    t.memRead .byte a = (v.extractLsb' 0 8).setWidth 32 ∧ t.memRead .byte (a + 1#32) = (v.extractLsb' 8 8).setWidth 32 ∧
    t.memRead .byte (a + 2#32) = (v.extractLsb' 16 8).setWidth 32 ∧
    t.memRead .byte (a + 3#32) = (v.extractLsb' 24 8).setWidth 32 ∧
    t.memRead .half a = (v.extractLsb' 0 16).setWidth 32 ∧
    t.memRead .half (a + 2#32) = (v.extractLsb' 16 16).setWidth 32

/-- R68 to R70: what each read returns, byte by byte, at aligned and misaligned addresses. Rests on choices the spec
or the model marks as its own: the reference memory agent, the spec's own choice (D2, D3; log 1). -/
def Obligations.LoadLanes : Prop :=
  ∀ (s : State) (a : Word),
    s.memRead .byte a = (s.byteAt a).setWidth 32 ∧ s.memRead .signedByte a = (s.byteAt a).signExtend 32 ∧
    (a &&& 3#32 = 0#32 → s.memRead .word a = s.byteAt (a + 3#32) ++ s.byteAt (a + 2#32) ++ s.byteAt (a + 1#32) ++ s.byteAt a) ∧
    s.memRead .word a = (s.memRead .word (a &&& 0xFFFFFFFC#32)).rotateRight (8 * (a.toNat % 4)) ∧
    (a &&& 1#32 = 0#32 →
      s.memRead .half a = (s.byteAt (a + 1#32) ++ s.byteAt a).setWidth 32 ∧
      s.memRead .signedHalf a = (s.byteAt (a + 1#32) ++ s.byteAt a).signExtend 32) ∧
    (a &&& 1#32 = 1#32 →
      s.memRead .half a = s.byteAt (a - 1#32) ++ 0#16 ++ s.byteAt a ∧
      s.memRead .signedHalf a = (s.byteAt a).signExtend 32)

/-! ## Exceptions, reset and the ports -/

/-- R441, R442: an interrupt is dropped without trace while I is set; otherwise it enters IRQ mode as the sequence
says. Rests on choices the spec or the model marks as its own: D6, D7, D8, D14, D17, D34, log 12 (no cache entry is
lost but to invalidation). -/
def Obligations.InterruptEntry : Prop :=
  ∀ s : State,
    (s.i = true → s.raiseInterrupt = s) ∧
    (s.i = false →
      let t := s.raiseInterrupt
      t.mode = .irq ∧ t.spsr = s.packStatus ∧ t.reg 14#4 = s.pc - (if s.t then 2#32 else 4#32) + 4#32 ∧
      t.pc = 0x0000001C#32 ∧ t.t = false ∧ t.i = true ∧ t.f = s.f ∧ t.fetchNonSeq = true ∧ SameFlags s t ∧
      (∀ m r, r ≠ 15#4 → ¬ (m = .irq ∧ r = 14#4) → t.view m r = s.view m r) ∧
      (∀ m, m ≠ .irq → t.viewSpsr m = s.viewSpsr m) ∧ SameMemory s t ∧ t.cycles = s.cycles ∧ t.log = s.log)

/-- R447, R443: `SUBS pc, lr, #4` in IRQ mode, with the saved status and link register an interrupt left, restores the
interrupted state's status word and PC, and changes no mode's other registers. Rests on choices the spec or the model
marks as its own: D1, D6, D8, D14, D17, D24; log 8 (the hand-off changes nothing); log 12 (no cache entry is lost but
to invalidation). -/
def Obligations.InterruptReturnRestores : Prop :=
  ∀ s h : State, s.pc.getLsbD 0 = false → h.mode = .irq → h.spsr = s.packStatus →
    h.reg 14#4 = s.pc - (if s.t then 2#32 else 4#32) + 4#32 → h.condPassed = true →
    ∃ t, exec (.subImm ⟨.al, true, 14#4, 15#4, 0#4, 4#8⟩) h = .next t ∧
      (t.finish true).packStatus = s.packStatus ∧ (t.finish true).mode = s.mode ∧ (t.finish true).pc = s.pc ∧
      (∀ m r, r ≠ 15#4 → (t.finish true).view m r = h.view m r) ∧ SameMemory h (t.finish true)

/-- R481, R482, R480: what `reset(entry)` leaves, and what it does not touch, on a live machine and on one that has
faulted: the fault is cleared, and what follows acts on the machine the reset made. Rests on choices the spec or the
model marks as its own: D6, D11 (all reset values are the spec's choice), D17, D26, D34; log 5, log 10 (the reset
leaves the log), log 11 and log 18. -/
def Obligations.ResetProcedure : Prop :=
  ∀ (s : State) (entry : Word), entry &&& 3#32 = 0#32 →
    ∃ t, s.resetTo entry = .next t ∧
      (∀ r : Reg, r ≠ 15#4 → t.reg r = 0#32) ∧ t.pc = entry + 4#32 ∧
      (∀ b, t.shadow.get b = ⟨0#32, 0#32, 0#32⟩) ∧
      (∀ (b : HighBank) (k : Fin 5), (t.shadow8_12.get b)[k] = 0#32) ∧ t.spsr = 0#32 ∧
      t.n = false ∧ t.z = false ∧ t.c = false ∧ t.v = false ∧ t.t = false ∧ t.i = true ∧ t.f = true ∧
      t.mode = .svc ∧ t.cycles = 0 ∧ t.fetchNonSeq = true ∧ t.icacheArm = [] ∧ t.icacheThumb = [] ∧
      t.packStatus = 0x000000D3#32 ∧ t.mem = s.mem ∧ t.log = s.log ∧
      react (.reset entry) s = .next t ∧
      ∀ (f : Fault) (rest : List Event), f.left = s →
        Result.reactAll (.fault f) (.reset entry :: rest) = reactAll rest t

/-- R322, R424, R446: the software interrupt of both encodings takes its exception. Rests on choices the spec or the
model marks as its own: D1, D6, D7, D9, D14, D17, log 12 (no cache entry is lost but to invalidation), D24 and D34
(the charges). -/
def Obligations.SoftwareInterrupt : Prop :=
  ∀ (i : Instr) (c : Option Cond) (s : State), SwiRow i c → HoldsOpt s c →
    ∃ t, exec i s = .next t ∧ t.mode = .svc ∧ t.spsr = s.packStatus ∧
      t.reg 14#4 = s.pc - (if s.t then 2#32 else 4#32) ∧ t.pc = 0x00000008#32 ∧ t.t = false ∧ t.i = true ∧
      t.f = s.f ∧ SameFlags s t ∧
      (∀ m r, r ≠ 15#4 → ¬ (m = .svc ∧ r = 14#4) → t.view m r = s.view m r) ∧
      (∀ m, m ≠ .svc → t.viewSpsr m = s.viewSpsr m) ∧ SameMemory s t ∧ t.log = s.log ∧ Charged s t 0 false

/-! ## Data processing -/

/-- R211, R212, R215 to R222, R227 to R230: the twelve writing operations in their three operand forms, Rd not 15.
Rests on choices the spec or the model marks as its own: D1, D19, D33, D39, log 12 (no cache entry is lost but to
invalidation), D24 and D34 (the charges). -/
def Obligations.DataProcessingWrites : Prop :=
  ∀ (i : Instr) (op : DpOp) (c : Cond) (set : Bool) (rn rd : Reg) (form : Operand2) (s : State),
    DpRow i op c set rn rd form → isTest op = false → rd ≠ 15#4 → Holds s c →
    let a := firstOperand form s rn
    let b := form.eval s
    ∃ t, exec i s = .next t ∧ t.reg rd = dpResult op a b.value s.c ∧ SameRegsBut s t (· = rd) ∧
      (if set then DpFlags op a b.value b.carry s t else SameFlags s t) ∧ SameRest s t ∧ SameMemory s t ∧
      Charged s t (shiftCycle form) false

/-- R211, R223 to R226, R213: TST, TEQ, CMP and CMN write the flags and nothing else, whatever their Rd field holds.
Rests on choices the spec or the model marks as its own: D1, D19, D20, D33, D39, log 12 (no cache entry is lost but to
invalidation), D24 and D34 (the charges). -/
def Obligations.TestsSetFlagsOnly : Prop :=
  ∀ (i : Instr) (op : DpOp) (c : Cond) (set : Bool) (rn rd : Reg) (form : Operand2) (s : State),
    DpRow i op c set rn rd form → isTest op = true → Holds s c →
    let b := form.eval s
    ∃ t, exec i s = .next t ∧ SameRegsBut s t (fun _ => False) ∧
      DpFlags op (firstOperand form s rn) b.value b.carry s t ∧ SameRest s t ∧ SameMemory s t ∧
      Charged s t (shiftCycle form) false

/-- R213: with Rd = 15 and S = 0 the twelve writing operations write the PC and nothing else. Rests on choices the
spec or the model marks as its own: D1, D19, D33, log 12 (no cache entry is lost but to invalidation), D24 and D34
(the charges). -/
def Obligations.DataProcessingJumps : Prop :=
  ∀ (i : Instr) (op : DpOp) (c : Cond) (rn : Reg) (form : Operand2) (s : State),
    DpRow i op c false rn 15#4 form → isTest op = false → Holds s c →
    ∃ t, exec i s = .next t ∧ t.pc = dpResult op (firstOperand form s rn) (form.eval s).value s.c ∧
      SameRegsBut s t (· = 15#4) ∧ SameFlags s t ∧ SameRest s t ∧ SameMemory s t ∧ Charged s t (shiftCycle form) false

/-- R213, R447: with Rd = 15 and S = 1 they return from the exception: the status is loaded from the saved status, the
PC is the result computed in the old mode, and no mode's registers change. Rests on choices the spec or the model
marks as its own: D1, D6, D14, D16, D19, D33, log 12 (no cache entry is lost but to invalidation), D24 and D34 (the
charges). -/
def Obligations.DataProcessingReturns : Prop :=
  ∀ (i : Instr) (op : DpOp) (c : Cond) (rn : Reg) (form : Operand2) (s : State) (m : Mode),
    DpRow i op c true rn 15#4 form → isTest op = false → Holds s c → s.mode ≠ .usr → s.mode ≠ .sys →
    modeNumber m = s.spsr.extractLsb' 0 5 →
    ∃ t, exec i s = .next t ∧ t.pc = dpResult op (firstOperand form s rn) (form.eval s).value s.c ∧
      t.mode = m ∧ StatusFrom t s.spsr ∧ SameViewsBut s t (fun _ r => r = 15#4) ∧ SameMemory s t ∧ t.log = s.log ∧
      Charged s t (shiftCycle form) false

/-! ## Multiplication -/

/-- R250, R251, R253, R254, R363: MUL, MLA and the 16-bit MUL. Rests on choices the spec or the model marks as its
own: D1, D21, D23 and the multiplier cycles, which the spec marks as general knowledge, log 12 (no cache entry is lost
but to invalidation), D24 and D34 (the charges). -/
def Obligations.Multiplies : Prop :=
  ∀ (i : Instr) (c : Option Cond) (set : Bool) (rd rm rs : Reg) (acc : State → Nat) (k : Nat) (s : State),
    MulRow i c set rd rm rs acc k → HoldsOpt s c →
    let v : Word := BitVec.ofNat 32 ((s.reg rm).toNat * (s.reg rs).toNat + acc s)
    ∃ t, exec i s = .next t ∧ t.reg rd = v ∧ SameRegsBut s t (· = rd) ∧
      (if set then t.n = v.getLsbD 31 ∧ (t.z = true ↔ v = 0#32) ∧ t.c = s.c ∧ t.v = s.v else SameFlags s t) ∧
      SameRest s t ∧ SameMemory s t ∧ Charged s t (multiplierCyclesSigned (s.reg rs) + k) false

/-- R250, R251, R255 to R258: the long multiplies; RdHi wins where both destinations are one register. Rests on
choices the spec or the model marks as its own: D1, D21, D23 and the multiplier cycles, which the spec marks as
general knowledge, log 12 (no cache entry is lost but to invalidation), D24 and D34 (the charges). -/
def Obligations.LongMultiplies : Prop :=
  ∀ (i : Instr) (f : MulLong) (value : State → Int) (k : State → Nat) (s : State),
    MulLongRow i f value k → Holds s f.cond →
    let p : BitVec 64 := BitVec.ofInt 64 (value s)
    ∃ t, exec i s = .next t ∧ t.reg f.rdHi = p.extractLsb' 32 32 ∧
      (f.rdLo ≠ f.rdHi → t.reg f.rdLo = p.extractLsb' 0 32) ∧ SameRegsBut s t (fun r => r = f.rdHi ∨ r = f.rdLo) ∧
      (if f.s then t.n = p.getLsbD 63 ∧ (t.z = true ↔ p = 0#64) ∧ t.c = s.c ∧ t.v = s.v else SameFlags s t) ∧
      SameRest s t ∧ SameMemory s t ∧ Charged s t (k s) false

/-- R506: the multiplier's early termination, by the size of the multiplier. Rests on choices the spec or the model
marks as its own: the multiplier's cycle table, which the spec marks as general knowledge. -/
def Obligations.MultiplierCycles : Prop :=
  ∀ v : Word,
    1 ≤ multiplierCyclesSigned v ∧ multiplierCyclesSigned v ≤ 4 ∧
    1 ≤ multiplierCyclesUnsigned v ∧ multiplierCyclesUnsigned v ≤ 4 ∧
    ∀ k, 1 ≤ k → k ≤ 3 →
      (multiplierCyclesUnsigned v ≤ k ↔ v.toNat < 2 ^ (8 * k)) ∧
      (multiplierCyclesSigned v ≤ k ↔ -(2 ^ (8 * k) : Int) ≤ v.toInt ∧ v.toInt < 2 ^ (8 * k))

/-! ## Branches -/

/-- R265, R266, R268, R374, R422, R426: B, the fourteen 16-bit conditional branches and the 16-bit B write the PC and
nothing else; BX of both encodings writes the PC, T from bit 0 of the value, and nothing else. Rests on choices the
spec or the model marks as its own: D1, D4, log 12 (no cache entry is lost but to invalidation), D24 and D34 (the
charges). -/
def Obligations.Branches : Prop :=
  (∀ (i : Instr) (c : Option Cond) (o : Int) (s : State), BranchRow i c o → HoldsOpt s c →
    ∃ t, exec i s = .next t ∧ t.pc = s.pc + BitVec.ofInt 32 o ∧ SameRegsBut s t (· = 15#4) ∧ SameFlags s t ∧
      SameRest s t ∧ SameMemory s t ∧ Charged s t 0 false) ∧
  (∀ (i : Instr) (c : Option Cond) (rm : Reg) (s : State), ExchangeRow i c rm → HoldsOpt s c →
    ∃ t, exec i s = .next t ∧ t.pc = s.reg rm ∧ t.t = (s.reg rm).getLsbD 0 ∧ SameRegsBut s t (· = 15#4) ∧
      SameFlags s t ∧ t.i = s.i ∧ t.f = s.f ∧ t.mode = s.mode ∧ SameBanks s t ∧ t.log = s.log ∧ SameMemory s t ∧
      Charged s t 0 false)

/-- R267, R431, R432: the branches with link: BL, and the two halves of the 16-bit BL. Rests on choices the spec or
the model marks as its own: D1 (the link values and offsets), log 12 (no cache entry is lost but to invalidation), D24
and D34 (the charges). -/
def Obligations.LinkBranches : Prop :=
  ∀ s : State,
    (∀ f : BranchForm, Holds s f.cond →
      ∃ t, exec (.bl f) s = .next t ∧ t.reg 14#4 = s.pc - 4#32 ∧ t.pc = s.pc + BitVec.ofInt 32 (4 * f.imm24.toInt) ∧
        SameRegsBut s t (fun r => r = 14#4 ∨ r = 15#4) ∧ SameFlags s t ∧ SameRest s t ∧ SameMemory s t ∧
        Charged s t 0 false) ∧
    (∀ o : BitVec 11,
      ∃ t, exec (.tBlHi o) s = .next t ∧ t.reg 14#4 = s.pc + BitVec.ofInt 32 (4096 * o.toInt) ∧
        SameRegsBut s t (· = 14#4) ∧ SameFlags s t ∧ SameRest s t ∧ SameMemory s t ∧ Charged s t 0 false) ∧
    (∀ o : BitVec 11,
      ∃ t, exec (.tBlLo o) s = .next t ∧ t.pc = s.reg 14#4 + BitVec.ofNat 32 (2 * o.toNat) ∧
        t.reg 14#4 = (s.pc - 2#32) ||| 1#32 ∧ SameRegsBut s t (fun r => r = 14#4 ∨ r = 15#4) ∧ SameFlags s t ∧
        SameRest s t ∧ SameMemory s t ∧ Charged s t 0 false)

/-! ## Single transfers -/

/-- R276, R277, R279, R280, R282, R284, R285, R287, R289, R291, R292: every single load of the 32-bit encoding; the
loaded value wins over the write-back. Rests on choices the spec or the model marks as its own: D1, D21, D29, D33,
D36, D37, D2, D3 and log 1 (the reference memory agent), log 12 (no cache entry is lost but to invalidation), D24 and
D34 (the charges). -/
def Obligations.SingleLoads : Prop :=
  ∀ (i : Instr) (k : LoadKind) (x : Transfer) (s : State), LoadRow i k x → Holds s x.cond →
    ∃ t, exec i s = .next t ∧ t.reg x.rd = s.memRead k (x.addr s) ∧
      (x.Wback → x.rn ≠ x.rd → t.reg x.rn = x.offaddr s) ∧
      SameRegsBut s t (fun r => r = x.rd ∨ (x.Wback ∧ r = x.rn)) ∧ SameFlags s t ∧ SameRest s t ∧ SameMemory s t ∧
      Charged s t (dataCharge k.width (x.addr s) + 1) true

/-- R276, R277, R278, R279, R281, R283, R284, R286, R288, R290: every single store of the 32-bit encoding; the value
is read before the write-back. Rests on choices the spec or the model marks as its own: D1, D19 (STORE_PC_OFFSET = 12,
log 15), D21, D29, D33, D37, D2, D3 and log 1 (the reference memory agent), D25 and log 12 (which cache entries a
store removes), D24 and D34 (the charges). -/
def Obligations.SingleStores : Prop :=
  ∀ (i : Instr) (w : Width) (x : Transfer) (s : State), StoreRow i w x → Holds s x.cond →
    ∃ t, exec i s = .next t ∧ Stores s t (StoredByte w (x.addr s) (storeValue s x.rd)) ∧
      (x.Wback → t.reg x.rn = x.offaddr s) ∧ SameRegsBut s t (fun r => x.Wback ∧ r = x.rn) ∧ SameFlags s t ∧
      SameRest s t ∧ Charged s t (dataCharge w (x.addr s)) true

/-- R293, R294: SWP and SWPB: the old memory value to Rd, the old register value to memory. Rests on choices the spec
or the model marks as its own: D1, D19 (STORE_PC_OFFSET = 12, log 15), D21, D2, D3 and log 1 (the reference memory
agent), D25 and log 12 (which cache entries a store removes), D24 and D34 (the charges). -/
def Obligations.Swaps : Prop :=
  ∀ (f : SwpForm) (s : State), Holds s f.cond →
    (∃ t, exec (.swp f) s = .next t ∧ t.reg f.rd = s.memRead .word (s.reg f.rn) ∧
      Stores s t (StoredByte .word (s.reg f.rn) (storeValue s f.rm)) ∧ SameRegsBut s t (· = f.rd) ∧ SameFlags s t ∧
      SameRest s t ∧ Charged s t (2 * Config.waitN32 (s.reg f.rn) + 1) true) ∧
    (∃ t, exec (.swpb f) s = .next t ∧ t.reg f.rd = s.memRead .byte (s.reg f.rn) ∧
      Stores s t (StoredByte .byte (s.reg f.rn) (storeValue s f.rm)) ∧ SameRegsBut s t (· = f.rd) ∧ SameFlags s t ∧
      SameRest s t ∧ Charged s t (2 * Config.waitN16 (s.reg f.rn) + 1) true)

/-! ## Block transfers -/

/-- R301 to R303, R305, R310: LDM without S. The loaded value wins over the write-back. Rests on choices the spec or
the model marks as its own: D1, D21, D36, D2, D3 and log 1 (the reference memory agent), log 12 (no cache entry is
lost but to invalidation), D24 and D34 (the charges). -/
def Obligations.LoadMultiple : Prop :=
  ∀ (f : BdtForm) (s : State), Holds s f.cond → f.rlist ≠ 0#16 → f.s = false →
    let n := listSize f.rlist
    let start := startAddress f.p f.u (s.reg f.rn) n
    ∃ t, exec (.ldm f) s = .next t ∧
      (∀ r, InList f.rlist r → t.reg r = s.wordAt (slot start f.rlist r)) ∧
      (f.w = true → ¬ InList f.rlist f.rn → t.reg f.rn = newBase f.u (s.reg f.rn) n) ∧
      SameRegsBut s t (fun r => InList f.rlist r ∨ (f.w = true ∧ r = f.rn)) ∧ SameFlags s t ∧ SameRest s t ∧
      SameMemory s t ∧ Charged s t (blockCharge start n + 1) true

/-- R303, R308: LDM with S and without register 15 loads the user bank; the base is the live register. Rests on
choices the spec or the model marks as its own: D1, D14, D21, D36, D38, D2, D3 and log 1 (the reference memory agent),
log 12 (no cache entry is lost but to invalidation), D24 and D34 (the charges). -/
def Obligations.LoadMultipleUserBank : Prop :=
  ∀ (f : BdtForm) (s : State), Holds s f.cond → f.rlist ≠ 0#16 → f.s = true → ¬ InList f.rlist 15#4 →
    let n := listSize f.rlist
    let start := startAddress f.p f.u (s.reg f.rn) n
    ∃ t, exec (.ldm f) s = .next t ∧ t.mode = s.mode ∧
      (∀ r, InList f.rlist r → t.view .usr r = s.wordAt (slot start f.rlist r)) ∧
      (f.w = true → ¬ (InList f.rlist f.rn ∧ SamePhysical s.mode .usr f.rn) →
        t.reg f.rn = newBase f.u (s.reg f.rn) n) ∧
      SameViewsBut s t (fun m r => (InList f.rlist r ∧ SamePhysical m .usr r) ∨
        (f.w = true ∧ r = f.rn ∧ SamePhysical m s.mode r)) ∧
      SameFlags s t ∧ SameControl s t ∧ SameMemory s t ∧ t.log = s.log ∧ Charged s t (blockCharge start n + 1) true

/-- R303, R307, R447: LDM with S and register 15 returns from the exception; the loaded registers go to the bank of
the mode the instruction started in. Rests on choices the spec or the model marks as its own: D1, D6, D14, D16, D21,
D36, D2, D3 and log 1 (the reference memory agent), log 12 (no cache entry is lost but to invalidation), D24 and D34
(the charges). -/
def Obligations.LoadMultipleReturns : Prop :=
  ∀ (f : BdtForm) (s : State) (m : Mode), Holds s f.cond → f.s = true → InList f.rlist 15#4 → s.mode ≠ .usr →
    s.mode ≠ .sys → modeNumber m = s.spsr.extractLsb' 0 5 →
    let n := listSize f.rlist
    let start := startAddress f.p f.u (s.reg f.rn) n
    ∃ t, exec (.ldm f) s = .next t ∧ t.mode = m ∧ StatusFrom t s.spsr ∧
      t.pc = s.wordAt (slot start f.rlist 15#4) ∧
      (∀ r, InList f.rlist r → r ≠ 15#4 → t.view s.mode r = s.wordAt (slot start f.rlist r)) ∧
      (f.w = true → ¬ InList f.rlist f.rn → t.view s.mode f.rn = newBase f.u (s.reg f.rn) n) ∧
      SameViewsBut s t (fun m' r => (InList f.rlist r ∨ (f.w = true ∧ r = f.rn)) ∧ SamePhysical m' s.mode r) ∧
      SameMemory s t ∧ t.log = s.log ∧ Charged s t (blockCharge start n + 1) true

/-- R301, R302, R304 to R306, R308: STM. The base in the list is stored as it was when it is the lowest register, and
as the new base otherwise; with S the registers are those of User mode. Rests on choices the spec or the model marks
as its own: D1, D14, D19 (STORE_PC_OFFSET = 12, log 15), D21, D38, D2, D3 and log 1 (the reference memory agent), D25
and log 12 (which cache entries a store removes), D24 and D34 (the charges). -/
def Obligations.StoreMultiple : Prop :=
  ∀ (f : BdtForm) (s : State), Holds s f.cond → f.rlist ≠ 0#16 →
    let n := listSize f.rlist
    let start := startAddress f.p f.u (s.reg f.rn) n
    let value : Reg → Word := fun r =>
      if r = f.rn ∧ f.w = true ∧ rank f.rlist r ≠ 0 then newBase f.u (s.reg f.rn) n
      else if r = 15#4 then s.pc + 4#32
      else if f.s then s.view .usr r
      else s.reg r
    ∃ t, exec (.stm f) s = .next t ∧ Stores s t (BlockBytes start f.rlist value) ∧
      (f.w = true → t.reg f.rn = newBase f.u (s.reg f.rn) n) ∧
      SameRegsBut s t (fun r => f.w = true ∧ r = f.rn) ∧ SameFlags s t ∧ SameRest s t ∧
      Charged s t (blockCharge start n) true

/-! ## Status transfer and coprocessor -/

/-- R315: MRS reads the current status, or in a mode that has one the saved status. Rests on choices the spec or the
model marks as its own: D1, D6, D16, D17, D21, log 12 (no cache entry is lost but to invalidation), D24 and D34 (the
charges). -/
def Obligations.MoveFromStatus : Prop :=
  ∀ (f : MrsForm) (s : State), Holds s f.cond → (f.r = true → s.mode ≠ .usr ∧ s.mode ≠ .sys) →
    ∃ t, exec (.mrs f) s = .next t ∧ t.reg f.rd = (if f.r then s.spsr else s.packStatus) ∧
      SameRegsBut s t (· = f.rd) ∧ SameFlags s t ∧ SameRest s t ∧ SameMemory s t ∧ Charged s t 0 false

/-- R317, R318, R320: MSR to the current status. The control field is ignored in User mode and never writes T; a mode
change keeps every mode's registers. Rests on choices the spec or the model marks as its own: D1, D6, D14, D15, D17,
D18, log 12 (no cache entry is lost but to invalidation), D24 and D34 (the charges). -/
def Obligations.MoveToCurrentStatus : Prop :=
  ∀ (i : Instr) (c : Cond) (mask : FieldMask) (op : State → Word) (s : State), MsrRow i c false mask op → Holds s c →
    (mask.c = true → s.mode ≠ .usr → ∃ m, modeNumber m = (op s).extractLsb' 0 5) →
    ∃ t, exec i s = .next t ∧
      (mask.c = true ∧ s.mode ≠ .usr →
        modeNumber t.mode = (op s).extractLsb' 0 5 ∧ t.i = (op s).getLsbD 7 ∧ t.f = (op s).getLsbD 6) ∧
      (¬ (mask.c = true ∧ s.mode ≠ .usr) → t.mode = s.mode ∧ t.i = s.i ∧ t.f = s.f) ∧ t.t = s.t ∧
      (if mask.f then t.n = (op s).getLsbD 31 ∧ t.z = (op s).getLsbD 30 ∧ t.c = (op s).getLsbD 29 ∧
        t.v = (op s).getLsbD 28 else SameFlags s t) ∧
      SameViewsBut s t (fun _ _ => False) ∧ t.pc = s.pc ∧ SameMemory s t ∧ t.log = s.log ∧ Charged s t 0 false

/-- R319: MSR to the saved status writes bits 31:28 and 7:0 by its mask and nothing else, in a mode that has one; in
User and System mode it raises NoSPSR. Rests on choices the spec or the model marks as its own: D1, D16, D17, D18, log
12 (no cache entry is lost but to invalidation), D24 and D34 (the charges). -/
def Obligations.MoveToSavedStatus : Prop :=
  ∀ (i : Instr) (c : Cond) (mask : FieldMask) (op : State → Word) (s : State), MsrRow i c true mask op → Holds s c →
    (s.mode = .usr ∨ s.mode = .sys → ∃ l, exec i s = .fault (.invariantViolation .noSpsr l)) ∧
    (s.mode ≠ .usr → s.mode ≠ .sys →
      ∃ t, exec i s = .next t ∧
        (∀ k, k < 32 → t.spsr.getLsbD k =
          (if (mask.f = true ∧ 28 ≤ k) ∨ (mask.c = true ∧ k ≤ 7) then (op s).getLsbD k else s.spsr.getLsbD k)) ∧
        SameRegsBut s t (fun _ => False) ∧ SameFlags s t ∧ SameControl s t ∧ t.shadow = s.shadow ∧
        t.shadow8_12 = s.shadow8_12 ∧ SameMemory s t ∧ t.log = s.log ∧ Charged s t 0 false)

/-- R324 to R329, R455: the five coprocessor classes report their word on the log port and do nothing else. Rests on
choices the spec or the model marks as its own: D1, D13, D35; log 10; log 12 (no cache entry is lost but to
invalidation); D24 and D34 (the charges). -/
def Obligations.CoprocessorIsLogged : Prop :=
  ∀ (w : Word) (i : Instr) (c : Cond) (s : State), decodeArm w = some i → CoprocessorRow i → condition i = some c →
    Holds s c →
    ∃ t, exec i s = .next t ∧ t.log = w :: s.log ∧ SameRegsBut s t (fun _ => False) ∧ SameFlags s t ∧
      SameControl s t ∧ SameBanks s t ∧ SameMemory s t ∧ Charged s t 0 false

/-! ## The 16-bit encoding -/

/-- R335 to R365, R372: formats 1 to 4 but MUL, and the compare of format 5: result, flags, frame. Rests on choices
the spec or the model marks as its own: D1, D33, D39, log 12 (no cache entry is lost but to invalidation), D24 and D34
(the charges). -/
def Obligations.ThumbArithmetic : Prop :=
  ∀ (i : Instr) (op : DpOp) (rd : Reg) (a b : State → Word) (shc : State → Bool) (k : Nat) (s : State),
    ThumbDpRow i op rd a b shc k →
    ∃ t, exec i s = .next t ∧
      (if isTest op then SameRegsBut s t (fun _ => False)
       else t.reg rd = dpResult op (a s) (b s) s.c ∧ SameRegsBut s t (· = rd)) ∧
      DpFlags op (a s) (b s) (shc s) s t ∧ SameRest s t ∧ SameMemory s t ∧ Charged s t k false

/-- R371, R373, R376 to R379: the register writes of formats 5, 12 and 13 that touch no flag. Rests on choices the
spec or the model marks as its own: D1, log 12 (no cache entry is lost but to invalidation), D24 and D34 (the
charges). -/
def Obligations.ThumbMoves : Prop :=
  ∀ (i : Instr) (rd : Reg) (v : State → Word) (s : State), ThumbMoveRow i rd v →
    ∃ t, exec i s = .next t ∧ t.reg rd = v s ∧ SameRegsBut s t (· = rd) ∧ SameFlags s t ∧ SameRest s t ∧
      SameMemory s t ∧ Charged s t 0 false

/-- R390, R391, R395, R396, R399 to R401, R404, R406, R409, R412: the single loads of formats 6 to 11. Rests on
choices the spec or the model marks as its own: D1, D2, D3 and log 1 (the reference memory agent), log 12 (no cache
entry is lost but to invalidation), D24 and D34 (the charges). -/
def Obligations.ThumbLoads : Prop :=
  ∀ (i : Instr) (k : LoadKind) (rd : Reg) (a : State → Word) (s : State), ThumbLoadRow i k rd a →
    ∃ t, exec i s = .next t ∧ t.reg rd = s.memRead k (a s) ∧ SameRegsBut s t (· = rd) ∧ SameFlags s t ∧
      SameRest s t ∧ SameMemory s t ∧ Charged s t (dataCharge k.width (a s) + 1) true

/-- R390, R393, R394, R398, R403, R405, R408, R411: the single stores of formats 7 to 11. Rests on choices the spec or
the model marks as its own: D1, D2, D3 and log 1 (the reference memory agent), D25 and log 12 (which cache entries a
store removes), D24 and D34 (the charges). -/
def Obligations.ThumbStores : Prop :=
  ∀ (i : Instr) (w : Width) (rd : Reg) (a : State → Word) (s : State), ThumbStoreRow i w rd a →
    ∃ t, exec i s = .next t ∧ Stores s t (StoredByte w (a s) (s.reg rd)) ∧ SameRegsBut s t (fun _ => False) ∧
      SameFlags s t ∧ SameRest s t ∧ Charged s t (dataCharge w (a s)) true

/-- R414, R416, R419: PUSH and STMIA. Rests on choices the spec or the model marks as its own: D1, D21, D2, D3 and log
1 (the reference memory agent), D25 and log 12 (which cache entries a store removes), D24 and D34 (the charges). -/
def Obligations.ThumbBlockStores : Prop :=
  ∀ s : State,
    (∀ f : TPushPop, ¬ (f.rlist = 0#8 ∧ f.r = false) →
      let rlist : BitVec 16 := (if f.r then 0x4000#16 else 0#16) ||| f.rlist.setWidth 16
      let start := s.reg 13#4 - BitVec.ofNat 32 (4 * listSize rlist)
      ∃ t, exec (.tPush f) s = .next t ∧ Stores s t (BlockBytes start rlist s.reg) ∧ t.reg 13#4 = start ∧
        SameRegsBut s t (· = 13#4) ∧ SameFlags s t ∧ SameRest s t ∧ Charged s t (blockCharge start (listSize rlist)) true) ∧
    (∀ f : TBlock, f.rlist ≠ 0#8 →
      let rlist : BitVec 16 := f.rlist.setWidth 16
      let newbase := s.reg f.rb + BitVec.ofNat 32 (4 * listSize rlist)
      let value : Reg → Word := fun r => if r = f.rb ∧ rank rlist r ≠ 0 then newbase else s.reg r
      ∃ t, exec (.tStmia f) s = .next t ∧ Stores s t (BlockBytes (s.reg f.rb) rlist value) ∧ t.reg f.rb = newbase ∧
        SameRegsBut s t (· = f.rb) ∧ SameFlags s t ∧ SameRest s t ∧
        Charged s t (blockCharge (s.reg f.rb) (listSize rlist)) true)

/-- R414, R417, R420: POP and LDMIA; POP of register 15 leaves T. Rests on choices the spec or the model marks as its
own: D1, D21, D36, D2, D3 and log 1 (the reference memory agent), log 12 (no cache entry is lost but to invalidation),
D24 and D34 (the charges). -/
def Obligations.ThumbBlockLoads : Prop :=
  ∀ s : State,
    (∀ f : TPushPop, ¬ (f.rlist = 0#8 ∧ f.r = false) →
      let rlist : BitVec 16 := (if f.r then 0x8000#16 else 0#16) ||| f.rlist.setWidth 16
      let start := s.reg 13#4
      ∃ t, exec (.tPop f) s = .next t ∧ (∀ r, InList rlist r → t.reg r = s.wordAt (slot start rlist r)) ∧
        t.reg 13#4 = start + BitVec.ofNat 32 (4 * listSize rlist) ∧
        SameRegsBut s t (fun r => InList rlist r ∨ r = 13#4) ∧ SameFlags s t ∧ SameRest s t ∧ SameMemory s t ∧
        Charged s t (blockCharge start (listSize rlist) + 1) true) ∧
    (∀ f : TBlock, f.rlist ≠ 0#8 →
      let rlist : BitVec 16 := f.rlist.setWidth 16
      let start := s.reg f.rb
      ∃ t, exec (.tLdmia f) s = .next t ∧ (∀ r, InList rlist r → t.reg r = s.wordAt (slot start rlist r)) ∧
        (¬ InList rlist f.rb → t.reg f.rb = start + BitVec.ofNat 32 (4 * listSize rlist)) ∧
        SameRegsBut s t (fun r => InList rlist r ∨ r = f.rb) ∧ SameFlags s t ∧ SameRest s t ∧ SameMemory s t ∧
        Charged s t (blockCharge start (listSize rlist) + 1) true)
end

