-- ==== Sys2Proof/Laws/State.lean ====
section
/-!
SUPPORT. One lemma per field per update of the state, true by `rfl`, so that no later proof unfolds a record update; and
the laws of the register accessors.
-/

namespace Sys2Proof.Machine

/-! ### setReg -/

@[simp] theorem State.setReg_n (s : State) (r : Reg) (w : Word) : (s.setReg r w).n = s.n := rfl
@[simp] theorem State.setReg_z (s : State) (r : Reg) (w : Word) : (s.setReg r w).z = s.z := rfl
@[simp] theorem State.setReg_c (s : State) (r : Reg) (w : Word) : (s.setReg r w).c = s.c := rfl
@[simp] theorem State.setReg_v (s : State) (r : Reg) (w : Word) : (s.setReg r w).v = s.v := rfl
@[simp] theorem State.setReg_i (s : State) (r : Reg) (w : Word) : (s.setReg r w).i = s.i := rfl
@[simp] theorem State.setReg_f (s : State) (r : Reg) (w : Word) : (s.setReg r w).f = s.f := rfl
@[simp] theorem State.setReg_t (s : State) (r : Reg) (w : Word) : (s.setReg r w).t = s.t := rfl
@[simp] theorem State.setReg_mode (s : State) (r : Reg) (w : Word) : (s.setReg r w).mode = s.mode := rfl
@[simp] theorem State.setReg_spsr (s : State) (r : Reg) (w : Word) : (s.setReg r w).spsr = s.spsr := rfl
@[simp] theorem State.setReg_shadow (s : State) (r : Reg) (w : Word) : (s.setReg r w).shadow = s.shadow := rfl
@[simp] theorem State.setReg_shadow8_12 (s : State) (r : Reg) (w : Word) : (s.setReg r w).shadow8_12 = s.shadow8_12 := rfl
@[simp] theorem State.setReg_cycles (s : State) (r : Reg) (w : Word) : (s.setReg r w).cycles = s.cycles := rfl
@[simp] theorem State.setReg_fetchNonSeq (s : State) (r : Reg) (w : Word) : (s.setReg r w).fetchNonSeq = s.fetchNonSeq := rfl
@[simp] theorem State.setReg_condPassed (s : State) (r : Reg) (w : Word) : (s.setReg r w).condPassed = s.condPassed := rfl
@[simp] theorem State.setReg_icacheArm (s : State) (r : Reg) (w : Word) : (s.setReg r w).icacheArm = s.icacheArm := rfl
@[simp] theorem State.setReg_icacheThumb (s : State) (r : Reg) (w : Word) : (s.setReg r w).icacheThumb = s.icacheThumb := rfl
@[simp] theorem State.setReg_mem (s : State) (r : Reg) (w : Word) : (s.setReg r w).mem = s.mem := rfl
@[simp] theorem State.setReg_log (s : State) (r : Reg) (w : Word) : (s.setReg r w).log = s.log := rfl

/-! ### setPc -/

@[simp] theorem State.setPc_n (s : State) (w : Word) : (s.setPc w).n = s.n := rfl
@[simp] theorem State.setPc_z (s : State) (w : Word) : (s.setPc w).z = s.z := rfl
@[simp] theorem State.setPc_c (s : State) (w : Word) : (s.setPc w).c = s.c := rfl
@[simp] theorem State.setPc_v (s : State) (w : Word) : (s.setPc w).v = s.v := rfl
@[simp] theorem State.setPc_i (s : State) (w : Word) : (s.setPc w).i = s.i := rfl
@[simp] theorem State.setPc_f (s : State) (w : Word) : (s.setPc w).f = s.f := rfl
@[simp] theorem State.setPc_t (s : State) (w : Word) : (s.setPc w).t = s.t := rfl
@[simp] theorem State.setPc_mode (s : State) (w : Word) : (s.setPc w).mode = s.mode := rfl
@[simp] theorem State.setPc_spsr (s : State) (w : Word) : (s.setPc w).spsr = s.spsr := rfl
@[simp] theorem State.setPc_shadow (s : State) (w : Word) : (s.setPc w).shadow = s.shadow := rfl
@[simp] theorem State.setPc_shadow8_12 (s : State) (w : Word) : (s.setPc w).shadow8_12 = s.shadow8_12 := rfl
@[simp] theorem State.setPc_cycles (s : State) (w : Word) : (s.setPc w).cycles = s.cycles := rfl
@[simp] theorem State.setPc_fetchNonSeq (s : State) (w : Word) : (s.setPc w).fetchNonSeq = s.fetchNonSeq := rfl
@[simp] theorem State.setPc_condPassed (s : State) (w : Word) : (s.setPc w).condPassed = s.condPassed := rfl
@[simp] theorem State.setPc_icacheArm (s : State) (w : Word) : (s.setPc w).icacheArm = s.icacheArm := rfl
@[simp] theorem State.setPc_icacheThumb (s : State) (w : Word) : (s.setPc w).icacheThumb = s.icacheThumb := rfl
@[simp] theorem State.setPc_mem (s : State) (w : Word) : (s.setPc w).mem = s.mem := rfl
@[simp] theorem State.setPc_log (s : State) (w : Word) : (s.setPc w).log = s.log := rfl

/-! ### fetchCost -/

@[simp] theorem State.fetchCost_x (s : State) : s.fetchCost.x = s.x := rfl
@[simp] theorem State.fetchCost_n (s : State) : s.fetchCost.n = s.n := rfl
@[simp] theorem State.fetchCost_z (s : State) : s.fetchCost.z = s.z := rfl
@[simp] theorem State.fetchCost_c (s : State) : s.fetchCost.c = s.c := rfl
@[simp] theorem State.fetchCost_v (s : State) : s.fetchCost.v = s.v := rfl
@[simp] theorem State.fetchCost_i (s : State) : s.fetchCost.i = s.i := rfl
@[simp] theorem State.fetchCost_f (s : State) : s.fetchCost.f = s.f := rfl
@[simp] theorem State.fetchCost_t (s : State) : s.fetchCost.t = s.t := rfl
@[simp] theorem State.fetchCost_mode (s : State) : s.fetchCost.mode = s.mode := rfl
@[simp] theorem State.fetchCost_spsr (s : State) : s.fetchCost.spsr = s.spsr := rfl
@[simp] theorem State.fetchCost_shadow (s : State) : s.fetchCost.shadow = s.shadow := rfl
@[simp] theorem State.fetchCost_shadow8_12 (s : State) : s.fetchCost.shadow8_12 = s.shadow8_12 := rfl
@[simp] theorem State.fetchCost_fetchNonSeq (s : State) :
    s.fetchCost.fetchNonSeq = false := rfl
@[simp] theorem State.fetchCost_condPassed (s : State) : s.fetchCost.condPassed = s.condPassed := rfl
@[simp] theorem State.fetchCost_icacheArm (s : State) : s.fetchCost.icacheArm = s.icacheArm := rfl
@[simp] theorem State.fetchCost_icacheThumb (s : State) : s.fetchCost.icacheThumb = s.icacheThumb := rfl
@[simp] theorem State.fetchCost_mem (s : State) : s.fetchCost.mem = s.mem := rfl
@[simp] theorem State.fetchCost_log (s : State) : s.fetchCost.log = s.log := rfl

/-! ### internalCycles -/

@[simp] theorem State.internalCycles_x (s : State) (k : Nat) : (s.internalCycles k).x = s.x := rfl
@[simp] theorem State.internalCycles_n (s : State) (k : Nat) : (s.internalCycles k).n = s.n := rfl
@[simp] theorem State.internalCycles_z (s : State) (k : Nat) : (s.internalCycles k).z = s.z := rfl
@[simp] theorem State.internalCycles_c (s : State) (k : Nat) : (s.internalCycles k).c = s.c := rfl
@[simp] theorem State.internalCycles_v (s : State) (k : Nat) : (s.internalCycles k).v = s.v := rfl
@[simp] theorem State.internalCycles_i (s : State) (k : Nat) : (s.internalCycles k).i = s.i := rfl
@[simp] theorem State.internalCycles_f (s : State) (k : Nat) : (s.internalCycles k).f = s.f := rfl
@[simp] theorem State.internalCycles_t (s : State) (k : Nat) : (s.internalCycles k).t = s.t := rfl
@[simp] theorem State.internalCycles_mode (s : State) (k : Nat) : (s.internalCycles k).mode = s.mode := rfl
@[simp] theorem State.internalCycles_spsr (s : State) (k : Nat) : (s.internalCycles k).spsr = s.spsr := rfl
@[simp] theorem State.internalCycles_shadow (s : State) (k : Nat) : (s.internalCycles k).shadow = s.shadow := rfl
@[simp] theorem State.internalCycles_shadow8_12 (s : State) (k : Nat) : (s.internalCycles k).shadow8_12 = s.shadow8_12 := rfl
@[simp] theorem State.internalCycles_cycles (s : State) (k : Nat) :
    (s.internalCycles k).cycles = s.cycles + k := rfl
@[simp] theorem State.internalCycles_fetchNonSeq (s : State) (k : Nat) : (s.internalCycles k).fetchNonSeq = s.fetchNonSeq := rfl
@[simp] theorem State.internalCycles_condPassed (s : State) (k : Nat) : (s.internalCycles k).condPassed = s.condPassed := rfl
@[simp] theorem State.internalCycles_icacheArm (s : State) (k : Nat) : (s.internalCycles k).icacheArm = s.icacheArm := rfl
@[simp] theorem State.internalCycles_icacheThumb (s : State) (k : Nat) : (s.internalCycles k).icacheThumb = s.icacheThumb := rfl
@[simp] theorem State.internalCycles_mem (s : State) (k : Nat) : (s.internalCycles k).mem = s.mem := rfl
@[simp] theorem State.internalCycles_log (s : State) (k : Nat) : (s.internalCycles k).log = s.log := rfl

/-! ### internalCycle -/

@[simp] theorem State.internalCycle_x (s : State) : s.internalCycle.x = s.x := rfl
@[simp] theorem State.internalCycle_n (s : State) : s.internalCycle.n = s.n := rfl
@[simp] theorem State.internalCycle_z (s : State) : s.internalCycle.z = s.z := rfl
@[simp] theorem State.internalCycle_c (s : State) : s.internalCycle.c = s.c := rfl
@[simp] theorem State.internalCycle_v (s : State) : s.internalCycle.v = s.v := rfl
@[simp] theorem State.internalCycle_i (s : State) : s.internalCycle.i = s.i := rfl
@[simp] theorem State.internalCycle_f (s : State) : s.internalCycle.f = s.f := rfl
@[simp] theorem State.internalCycle_t (s : State) : s.internalCycle.t = s.t := rfl
@[simp] theorem State.internalCycle_mode (s : State) : s.internalCycle.mode = s.mode := rfl
@[simp] theorem State.internalCycle_spsr (s : State) : s.internalCycle.spsr = s.spsr := rfl
@[simp] theorem State.internalCycle_shadow (s : State) : s.internalCycle.shadow = s.shadow := rfl
@[simp] theorem State.internalCycle_shadow8_12 (s : State) : s.internalCycle.shadow8_12 = s.shadow8_12 := rfl
@[simp] theorem State.internalCycle_cycles (s : State) :
    s.internalCycle.cycles = s.cycles + 1 := rfl
@[simp] theorem State.internalCycle_fetchNonSeq (s : State) : s.internalCycle.fetchNonSeq = s.fetchNonSeq := rfl
@[simp] theorem State.internalCycle_condPassed (s : State) : s.internalCycle.condPassed = s.condPassed := rfl
@[simp] theorem State.internalCycle_icacheArm (s : State) : s.internalCycle.icacheArm = s.icacheArm := rfl
@[simp] theorem State.internalCycle_icacheThumb (s : State) : s.internalCycle.icacheThumb = s.icacheThumb := rfl
@[simp] theorem State.internalCycle_mem (s : State) : s.internalCycle.mem = s.mem := rfl
@[simp] theorem State.internalCycle_log (s : State) : s.internalCycle.log = s.log := rfl

/-! ### refillCost -/

@[simp] theorem State.refillCost_x (s : State) (p : Word) : (s.refillCost p).x = s.x := rfl
@[simp] theorem State.refillCost_n (s : State) (p : Word) : (s.refillCost p).n = s.n := rfl
@[simp] theorem State.refillCost_z (s : State) (p : Word) : (s.refillCost p).z = s.z := rfl
@[simp] theorem State.refillCost_c (s : State) (p : Word) : (s.refillCost p).c = s.c := rfl
@[simp] theorem State.refillCost_v (s : State) (p : Word) : (s.refillCost p).v = s.v := rfl
@[simp] theorem State.refillCost_i (s : State) (p : Word) : (s.refillCost p).i = s.i := rfl
@[simp] theorem State.refillCost_f (s : State) (p : Word) : (s.refillCost p).f = s.f := rfl
@[simp] theorem State.refillCost_t (s : State) (p : Word) : (s.refillCost p).t = s.t := rfl
@[simp] theorem State.refillCost_mode (s : State) (p : Word) : (s.refillCost p).mode = s.mode := rfl
@[simp] theorem State.refillCost_spsr (s : State) (p : Word) : (s.refillCost p).spsr = s.spsr := rfl
@[simp] theorem State.refillCost_shadow (s : State) (p : Word) : (s.refillCost p).shadow = s.shadow := rfl
@[simp] theorem State.refillCost_shadow8_12 (s : State) (p : Word) : (s.refillCost p).shadow8_12 = s.shadow8_12 := rfl
@[simp] theorem State.refillCost_fetchNonSeq (s : State) (p : Word) :
    (s.refillCost p).fetchNonSeq = false := rfl
@[simp] theorem State.refillCost_condPassed (s : State) (p : Word) : (s.refillCost p).condPassed = s.condPassed := rfl
@[simp] theorem State.refillCost_icacheArm (s : State) (p : Word) : (s.refillCost p).icacheArm = s.icacheArm := rfl
@[simp] theorem State.refillCost_icacheThumb (s : State) (p : Word) : (s.refillCost p).icacheThumb = s.icacheThumb := rfl
@[simp] theorem State.refillCost_mem (s : State) (p : Word) : (s.refillCost p).mem = s.mem := rfl
@[simp] theorem State.refillCost_log (s : State) (p : Word) : (s.refillCost p).log = s.log := rfl

/-! ### dataCost -/

@[simp] theorem State.dataCost_x (s : State) (w : Width) (sq : Bool) (a : Word) : (s.dataCost w sq a).x = s.x := rfl
@[simp] theorem State.dataCost_n (s : State) (w : Width) (sq : Bool) (a : Word) : (s.dataCost w sq a).n = s.n := rfl
@[simp] theorem State.dataCost_z (s : State) (w : Width) (sq : Bool) (a : Word) : (s.dataCost w sq a).z = s.z := rfl
@[simp] theorem State.dataCost_c (s : State) (w : Width) (sq : Bool) (a : Word) : (s.dataCost w sq a).c = s.c := rfl
@[simp] theorem State.dataCost_v (s : State) (w : Width) (sq : Bool) (a : Word) : (s.dataCost w sq a).v = s.v := rfl
@[simp] theorem State.dataCost_i (s : State) (w : Width) (sq : Bool) (a : Word) : (s.dataCost w sq a).i = s.i := rfl
@[simp] theorem State.dataCost_f (s : State) (w : Width) (sq : Bool) (a : Word) : (s.dataCost w sq a).f = s.f := rfl
@[simp] theorem State.dataCost_t (s : State) (w : Width) (sq : Bool) (a : Word) : (s.dataCost w sq a).t = s.t := rfl
@[simp] theorem State.dataCost_mode (s : State) (w : Width) (sq : Bool) (a : Word) : (s.dataCost w sq a).mode = s.mode := rfl
@[simp] theorem State.dataCost_spsr (s : State) (w : Width) (sq : Bool) (a : Word) : (s.dataCost w sq a).spsr = s.spsr := rfl
@[simp] theorem State.dataCost_shadow (s : State) (w : Width) (sq : Bool) (a : Word) : (s.dataCost w sq a).shadow = s.shadow := rfl
@[simp] theorem State.dataCost_shadow8_12 (s : State) (w : Width) (sq : Bool) (a : Word) : (s.dataCost w sq a).shadow8_12 = s.shadow8_12 := rfl
@[simp] theorem State.dataCost_fetchNonSeq (s : State) (w : Width) (sq : Bool) (a : Word) :
    (s.dataCost w sq a).fetchNonSeq = true := rfl
@[simp] theorem State.dataCost_condPassed (s : State) (w : Width) (sq : Bool) (a : Word) : (s.dataCost w sq a).condPassed = s.condPassed := rfl
@[simp] theorem State.dataCost_icacheArm (s : State) (w : Width) (sq : Bool) (a : Word) : (s.dataCost w sq a).icacheArm = s.icacheArm := rfl
@[simp] theorem State.dataCost_icacheThumb (s : State) (w : Width) (sq : Bool) (a : Word) : (s.dataCost w sq a).icacheThumb = s.icacheThumb := rfl
@[simp] theorem State.dataCost_mem (s : State) (w : Width) (sq : Bool) (a : Word) : (s.dataCost w sq a).mem = s.mem := rfl
@[simp] theorem State.dataCost_log (s : State) (w : Width) (sq : Bool) (a : Word) : (s.dataCost w sq a).log = s.log := rfl

/-! ### setByte -/

@[simp] theorem State.setByte_x (s : State) (a : Word) (b : Byte) : (s.setByte a b).x = s.x := rfl
@[simp] theorem State.setByte_n (s : State) (a : Word) (b : Byte) : (s.setByte a b).n = s.n := rfl
@[simp] theorem State.setByte_z (s : State) (a : Word) (b : Byte) : (s.setByte a b).z = s.z := rfl
@[simp] theorem State.setByte_c (s : State) (a : Word) (b : Byte) : (s.setByte a b).c = s.c := rfl
@[simp] theorem State.setByte_v (s : State) (a : Word) (b : Byte) : (s.setByte a b).v = s.v := rfl
@[simp] theorem State.setByte_i (s : State) (a : Word) (b : Byte) : (s.setByte a b).i = s.i := rfl
@[simp] theorem State.setByte_f (s : State) (a : Word) (b : Byte) : (s.setByte a b).f = s.f := rfl
@[simp] theorem State.setByte_t (s : State) (a : Word) (b : Byte) : (s.setByte a b).t = s.t := rfl
@[simp] theorem State.setByte_mode (s : State) (a : Word) (b : Byte) : (s.setByte a b).mode = s.mode := rfl
@[simp] theorem State.setByte_spsr (s : State) (a : Word) (b : Byte) : (s.setByte a b).spsr = s.spsr := rfl
@[simp] theorem State.setByte_shadow (s : State) (a : Word) (b : Byte) : (s.setByte a b).shadow = s.shadow := rfl
@[simp] theorem State.setByte_shadow8_12 (s : State) (a : Word) (b : Byte) : (s.setByte a b).shadow8_12 = s.shadow8_12 := rfl
@[simp] theorem State.setByte_cycles (s : State) (a : Word) (b : Byte) : (s.setByte a b).cycles = s.cycles := rfl
@[simp] theorem State.setByte_fetchNonSeq (s : State) (a : Word) (b : Byte) : (s.setByte a b).fetchNonSeq = s.fetchNonSeq := rfl
@[simp] theorem State.setByte_condPassed (s : State) (a : Word) (b : Byte) : (s.setByte a b).condPassed = s.condPassed := rfl
@[simp] theorem State.setByte_icacheArm (s : State) (a : Word) (b : Byte) : (s.setByte a b).icacheArm = s.icacheArm := rfl
@[simp] theorem State.setByte_icacheThumb (s : State) (a : Word) (b : Byte) : (s.setByte a b).icacheThumb = s.icacheThumb := rfl
@[simp] theorem State.setByte_mem (s : State) (a : Word) (b : Byte) :
    (s.setByte a b).mem = Memory.write s.mem a.toNat b := rfl
@[simp] theorem State.setByte_log (s : State) (a : Word) (b : Byte) : (s.setByte a b).log = s.log := rfl

/-! ### invalidateByte -/

@[simp] theorem State.invalidateByte_x (s : State) (a : Word) : (s.invalidateByte a).x = s.x := rfl
@[simp] theorem State.invalidateByte_n (s : State) (a : Word) : (s.invalidateByte a).n = s.n := rfl
@[simp] theorem State.invalidateByte_z (s : State) (a : Word) : (s.invalidateByte a).z = s.z := rfl
@[simp] theorem State.invalidateByte_c (s : State) (a : Word) : (s.invalidateByte a).c = s.c := rfl
@[simp] theorem State.invalidateByte_v (s : State) (a : Word) : (s.invalidateByte a).v = s.v := rfl
@[simp] theorem State.invalidateByte_i (s : State) (a : Word) : (s.invalidateByte a).i = s.i := rfl
@[simp] theorem State.invalidateByte_f (s : State) (a : Word) : (s.invalidateByte a).f = s.f := rfl
@[simp] theorem State.invalidateByte_t (s : State) (a : Word) : (s.invalidateByte a).t = s.t := rfl
@[simp] theorem State.invalidateByte_mode (s : State) (a : Word) : (s.invalidateByte a).mode = s.mode := rfl
@[simp] theorem State.invalidateByte_spsr (s : State) (a : Word) : (s.invalidateByte a).spsr = s.spsr := rfl
@[simp] theorem State.invalidateByte_shadow (s : State) (a : Word) : (s.invalidateByte a).shadow = s.shadow := rfl
@[simp] theorem State.invalidateByte_shadow8_12 (s : State) (a : Word) : (s.invalidateByte a).shadow8_12 = s.shadow8_12 := rfl
@[simp] theorem State.invalidateByte_cycles (s : State) (a : Word) : (s.invalidateByte a).cycles = s.cycles := rfl
@[simp] theorem State.invalidateByte_fetchNonSeq (s : State) (a : Word) : (s.invalidateByte a).fetchNonSeq = s.fetchNonSeq := rfl
@[simp] theorem State.invalidateByte_condPassed (s : State) (a : Word) : (s.invalidateByte a).condPassed = s.condPassed := rfl
@[simp] theorem State.invalidateByte_icacheArm (s : State) (a : Word) :
    (s.invalidateByte a).icacheArm = SortedMap.erase (alignWord a).toNat s.icacheArm := rfl
@[simp] theorem State.invalidateByte_icacheThumb (s : State) (a : Word) :
    (s.invalidateByte a).icacheThumb = SortedMap.erase (alignHalf a).toNat s.icacheThumb := rfl
@[simp] theorem State.invalidateByte_mem (s : State) (a : Word) : (s.invalidateByte a).mem = s.mem := rfl
@[simp] theorem State.invalidateByte_log (s : State) (a : Word) : (s.invalidateByte a).log = s.log := rfl

/-! ### setNZ -/

@[simp] theorem State.setNZ_x (s : State) (w : Word) : (s.setNZ w).x = s.x := rfl
@[simp] theorem State.setNZ_n (s : State) (w : Word) :
    (s.setNZ w).n = w.msb := rfl
@[simp] theorem State.setNZ_z (s : State) (w : Word) :
    (s.setNZ w).z = (w == 0#32) := rfl
@[simp] theorem State.setNZ_c (s : State) (w : Word) : (s.setNZ w).c = s.c := rfl
@[simp] theorem State.setNZ_v (s : State) (w : Word) : (s.setNZ w).v = s.v := rfl
@[simp] theorem State.setNZ_i (s : State) (w : Word) : (s.setNZ w).i = s.i := rfl
@[simp] theorem State.setNZ_f (s : State) (w : Word) : (s.setNZ w).f = s.f := rfl
@[simp] theorem State.setNZ_t (s : State) (w : Word) : (s.setNZ w).t = s.t := rfl
@[simp] theorem State.setNZ_mode (s : State) (w : Word) : (s.setNZ w).mode = s.mode := rfl
@[simp] theorem State.setNZ_spsr (s : State) (w : Word) : (s.setNZ w).spsr = s.spsr := rfl
@[simp] theorem State.setNZ_shadow (s : State) (w : Word) : (s.setNZ w).shadow = s.shadow := rfl
@[simp] theorem State.setNZ_shadow8_12 (s : State) (w : Word) : (s.setNZ w).shadow8_12 = s.shadow8_12 := rfl
@[simp] theorem State.setNZ_cycles (s : State) (w : Word) : (s.setNZ w).cycles = s.cycles := rfl
@[simp] theorem State.setNZ_fetchNonSeq (s : State) (w : Word) : (s.setNZ w).fetchNonSeq = s.fetchNonSeq := rfl
@[simp] theorem State.setNZ_condPassed (s : State) (w : Word) : (s.setNZ w).condPassed = s.condPassed := rfl
@[simp] theorem State.setNZ_icacheArm (s : State) (w : Word) : (s.setNZ w).icacheArm = s.icacheArm := rfl
@[simp] theorem State.setNZ_icacheThumb (s : State) (w : Word) : (s.setNZ w).icacheThumb = s.icacheThumb := rfl
@[simp] theorem State.setNZ_mem (s : State) (w : Word) : (s.setNZ w).mem = s.mem := rfl
@[simp] theorem State.setNZ_log (s : State) (w : Word) : (s.setNZ w).log = s.log := rfl

/-! ### setNZ64 -/

@[simp] theorem State.setNZ64_x (s : State) (w : BitVec 64) : (s.setNZ64 w).x = s.x := rfl
@[simp] theorem State.setNZ64_n (s : State) (w : BitVec 64) :
    (s.setNZ64 w).n = w.msb := rfl
@[simp] theorem State.setNZ64_z (s : State) (w : BitVec 64) :
    (s.setNZ64 w).z = (w == 0#64) := rfl
@[simp] theorem State.setNZ64_c (s : State) (w : BitVec 64) : (s.setNZ64 w).c = s.c := rfl
@[simp] theorem State.setNZ64_v (s : State) (w : BitVec 64) : (s.setNZ64 w).v = s.v := rfl
@[simp] theorem State.setNZ64_i (s : State) (w : BitVec 64) : (s.setNZ64 w).i = s.i := rfl
@[simp] theorem State.setNZ64_f (s : State) (w : BitVec 64) : (s.setNZ64 w).f = s.f := rfl
@[simp] theorem State.setNZ64_t (s : State) (w : BitVec 64) : (s.setNZ64 w).t = s.t := rfl
@[simp] theorem State.setNZ64_mode (s : State) (w : BitVec 64) : (s.setNZ64 w).mode = s.mode := rfl
@[simp] theorem State.setNZ64_spsr (s : State) (w : BitVec 64) : (s.setNZ64 w).spsr = s.spsr := rfl
@[simp] theorem State.setNZ64_shadow (s : State) (w : BitVec 64) : (s.setNZ64 w).shadow = s.shadow := rfl
@[simp] theorem State.setNZ64_shadow8_12 (s : State) (w : BitVec 64) : (s.setNZ64 w).shadow8_12 = s.shadow8_12 := rfl
@[simp] theorem State.setNZ64_cycles (s : State) (w : BitVec 64) : (s.setNZ64 w).cycles = s.cycles := rfl
@[simp] theorem State.setNZ64_fetchNonSeq (s : State) (w : BitVec 64) : (s.setNZ64 w).fetchNonSeq = s.fetchNonSeq := rfl
@[simp] theorem State.setNZ64_condPassed (s : State) (w : BitVec 64) : (s.setNZ64 w).condPassed = s.condPassed := rfl
@[simp] theorem State.setNZ64_icacheArm (s : State) (w : BitVec 64) : (s.setNZ64 w).icacheArm = s.icacheArm := rfl
@[simp] theorem State.setNZ64_icacheThumb (s : State) (w : BitVec 64) : (s.setNZ64 w).icacheThumb = s.icacheThumb := rfl
@[simp] theorem State.setNZ64_mem (s : State) (w : BitVec 64) : (s.setNZ64 w).mem = s.mem := rfl
@[simp] theorem State.setNZ64_log (s : State) (w : BitVec 64) : (s.setNZ64 w).log = s.log := rfl

/-! ### setFlagsArithmetic -/

@[simp] theorem State.setFlagsArithmetic_x (s : State) (r : AluResult) : (s.setFlagsArithmetic r).x = s.x := rfl
@[simp] theorem State.setFlagsArithmetic_n (s : State) (r : AluResult) :
    (s.setFlagsArithmetic r).n = r.value.msb := rfl
@[simp] theorem State.setFlagsArithmetic_z (s : State) (r : AluResult) :
    (s.setFlagsArithmetic r).z = (r.value == 0#32) := rfl
@[simp] theorem State.setFlagsArithmetic_c (s : State) (r : AluResult) :
    (s.setFlagsArithmetic r).c = r.carry := rfl
@[simp] theorem State.setFlagsArithmetic_v (s : State) (r : AluResult) :
    (s.setFlagsArithmetic r).v = r.overflow := rfl
@[simp] theorem State.setFlagsArithmetic_i (s : State) (r : AluResult) : (s.setFlagsArithmetic r).i = s.i := rfl
@[simp] theorem State.setFlagsArithmetic_f (s : State) (r : AluResult) : (s.setFlagsArithmetic r).f = s.f := rfl
@[simp] theorem State.setFlagsArithmetic_t (s : State) (r : AluResult) : (s.setFlagsArithmetic r).t = s.t := rfl
@[simp] theorem State.setFlagsArithmetic_mode (s : State) (r : AluResult) : (s.setFlagsArithmetic r).mode = s.mode := rfl
@[simp] theorem State.setFlagsArithmetic_spsr (s : State) (r : AluResult) : (s.setFlagsArithmetic r).spsr = s.spsr := rfl
@[simp] theorem State.setFlagsArithmetic_shadow (s : State) (r : AluResult) : (s.setFlagsArithmetic r).shadow = s.shadow := rfl
@[simp] theorem State.setFlagsArithmetic_shadow8_12 (s : State) (r : AluResult) : (s.setFlagsArithmetic r).shadow8_12 = s.shadow8_12 := rfl
@[simp] theorem State.setFlagsArithmetic_cycles (s : State) (r : AluResult) : (s.setFlagsArithmetic r).cycles = s.cycles := rfl
@[simp] theorem State.setFlagsArithmetic_fetchNonSeq (s : State) (r : AluResult) : (s.setFlagsArithmetic r).fetchNonSeq = s.fetchNonSeq := rfl
@[simp] theorem State.setFlagsArithmetic_condPassed (s : State) (r : AluResult) : (s.setFlagsArithmetic r).condPassed = s.condPassed := rfl
@[simp] theorem State.setFlagsArithmetic_icacheArm (s : State) (r : AluResult) : (s.setFlagsArithmetic r).icacheArm = s.icacheArm := rfl
@[simp] theorem State.setFlagsArithmetic_icacheThumb (s : State) (r : AluResult) : (s.setFlagsArithmetic r).icacheThumb = s.icacheThumb := rfl
@[simp] theorem State.setFlagsArithmetic_mem (s : State) (r : AluResult) : (s.setFlagsArithmetic r).mem = s.mem := rfl
@[simp] theorem State.setFlagsArithmetic_log (s : State) (r : AluResult) : (s.setFlagsArithmetic r).log = s.log := rfl

/-! ### setFlagsLogical -/

@[simp] theorem State.setFlagsLogical_x (s : State) (w : Word) (k : Bool) : (s.setFlagsLogical w k).x = s.x := rfl
@[simp] theorem State.setFlagsLogical_n (s : State) (w : Word) (k : Bool) :
    (s.setFlagsLogical w k).n = w.msb := rfl
@[simp] theorem State.setFlagsLogical_z (s : State) (w : Word) (k : Bool) :
    (s.setFlagsLogical w k).z = (w == 0#32) := rfl
@[simp] theorem State.setFlagsLogical_c (s : State) (w : Word) (k : Bool) :
    (s.setFlagsLogical w k).c = k := rfl
@[simp] theorem State.setFlagsLogical_v (s : State) (w : Word) (k : Bool) : (s.setFlagsLogical w k).v = s.v := rfl
@[simp] theorem State.setFlagsLogical_i (s : State) (w : Word) (k : Bool) : (s.setFlagsLogical w k).i = s.i := rfl
@[simp] theorem State.setFlagsLogical_f (s : State) (w : Word) (k : Bool) : (s.setFlagsLogical w k).f = s.f := rfl
@[simp] theorem State.setFlagsLogical_t (s : State) (w : Word) (k : Bool) : (s.setFlagsLogical w k).t = s.t := rfl
@[simp] theorem State.setFlagsLogical_mode (s : State) (w : Word) (k : Bool) : (s.setFlagsLogical w k).mode = s.mode := rfl
@[simp] theorem State.setFlagsLogical_spsr (s : State) (w : Word) (k : Bool) : (s.setFlagsLogical w k).spsr = s.spsr := rfl
@[simp] theorem State.setFlagsLogical_shadow (s : State) (w : Word) (k : Bool) : (s.setFlagsLogical w k).shadow = s.shadow := rfl
@[simp] theorem State.setFlagsLogical_shadow8_12 (s : State) (w : Word) (k : Bool) : (s.setFlagsLogical w k).shadow8_12 = s.shadow8_12 := rfl
@[simp] theorem State.setFlagsLogical_cycles (s : State) (w : Word) (k : Bool) : (s.setFlagsLogical w k).cycles = s.cycles := rfl
@[simp] theorem State.setFlagsLogical_fetchNonSeq (s : State) (w : Word) (k : Bool) : (s.setFlagsLogical w k).fetchNonSeq = s.fetchNonSeq := rfl
@[simp] theorem State.setFlagsLogical_condPassed (s : State) (w : Word) (k : Bool) : (s.setFlagsLogical w k).condPassed = s.condPassed := rfl
@[simp] theorem State.setFlagsLogical_icacheArm (s : State) (w : Word) (k : Bool) : (s.setFlagsLogical w k).icacheArm = s.icacheArm := rfl
@[simp] theorem State.setFlagsLogical_icacheThumb (s : State) (w : Word) (k : Bool) : (s.setFlagsLogical w k).icacheThumb = s.icacheThumb := rfl
@[simp] theorem State.setFlagsLogical_mem (s : State) (w : Word) (k : Bool) : (s.setFlagsLogical w k).mem = s.mem := rfl
@[simp] theorem State.setFlagsLogical_log (s : State) (w : Word) (k : Bool) : (s.setFlagsLogical w k).log = s.log := rfl

/-! ### branchExchange -/

@[simp] theorem State.branchExchange_n (s : State) (w : Word) : (s.branchExchange w).n = s.n := rfl
@[simp] theorem State.branchExchange_z (s : State) (w : Word) : (s.branchExchange w).z = s.z := rfl
@[simp] theorem State.branchExchange_c (s : State) (w : Word) : (s.branchExchange w).c = s.c := rfl
@[simp] theorem State.branchExchange_v (s : State) (w : Word) : (s.branchExchange w).v = s.v := rfl
@[simp] theorem State.branchExchange_i (s : State) (w : Word) : (s.branchExchange w).i = s.i := rfl
@[simp] theorem State.branchExchange_f (s : State) (w : Word) : (s.branchExchange w).f = s.f := rfl
@[simp] theorem State.branchExchange_t (s : State) (w : Word) :
    (s.branchExchange w).t = w.getLsbD 0 := rfl
@[simp] theorem State.branchExchange_mode (s : State) (w : Word) : (s.branchExchange w).mode = s.mode := rfl
@[simp] theorem State.branchExchange_spsr (s : State) (w : Word) : (s.branchExchange w).spsr = s.spsr := rfl
@[simp] theorem State.branchExchange_shadow (s : State) (w : Word) : (s.branchExchange w).shadow = s.shadow := rfl
@[simp] theorem State.branchExchange_shadow8_12 (s : State) (w : Word) : (s.branchExchange w).shadow8_12 = s.shadow8_12 := rfl
@[simp] theorem State.branchExchange_cycles (s : State) (w : Word) : (s.branchExchange w).cycles = s.cycles := rfl
@[simp] theorem State.branchExchange_fetchNonSeq (s : State) (w : Word) : (s.branchExchange w).fetchNonSeq = s.fetchNonSeq := rfl
@[simp] theorem State.branchExchange_condPassed (s : State) (w : Word) : (s.branchExchange w).condPassed = s.condPassed := rfl
@[simp] theorem State.branchExchange_icacheArm (s : State) (w : Word) : (s.branchExchange w).icacheArm = s.icacheArm := rfl
@[simp] theorem State.branchExchange_icacheThumb (s : State) (w : Word) : (s.branchExchange w).icacheThumb = s.icacheThumb := rfl
@[simp] theorem State.branchExchange_mem (s : State) (w : Word) : (s.branchExchange w).mem = s.mem := rfl
@[simp] theorem State.branchExchange_log (s : State) (w : Word) : (s.branchExchange w).log = s.log := rfl

/-! ### logUnimplemented -/

@[simp] theorem State.logUnimplemented_x (s : State) (w : Word) : (s.logUnimplemented w).x = s.x := rfl
@[simp] theorem State.logUnimplemented_n (s : State) (w : Word) : (s.logUnimplemented w).n = s.n := rfl
@[simp] theorem State.logUnimplemented_z (s : State) (w : Word) : (s.logUnimplemented w).z = s.z := rfl
@[simp] theorem State.logUnimplemented_c (s : State) (w : Word) : (s.logUnimplemented w).c = s.c := rfl
@[simp] theorem State.logUnimplemented_v (s : State) (w : Word) : (s.logUnimplemented w).v = s.v := rfl
@[simp] theorem State.logUnimplemented_i (s : State) (w : Word) : (s.logUnimplemented w).i = s.i := rfl
@[simp] theorem State.logUnimplemented_f (s : State) (w : Word) : (s.logUnimplemented w).f = s.f := rfl
@[simp] theorem State.logUnimplemented_t (s : State) (w : Word) : (s.logUnimplemented w).t = s.t := rfl
@[simp] theorem State.logUnimplemented_mode (s : State) (w : Word) : (s.logUnimplemented w).mode = s.mode := rfl
@[simp] theorem State.logUnimplemented_spsr (s : State) (w : Word) : (s.logUnimplemented w).spsr = s.spsr := rfl
@[simp] theorem State.logUnimplemented_shadow (s : State) (w : Word) : (s.logUnimplemented w).shadow = s.shadow := rfl
@[simp] theorem State.logUnimplemented_shadow8_12 (s : State) (w : Word) : (s.logUnimplemented w).shadow8_12 = s.shadow8_12 := rfl
@[simp] theorem State.logUnimplemented_cycles (s : State) (w : Word) : (s.logUnimplemented w).cycles = s.cycles := rfl
@[simp] theorem State.logUnimplemented_fetchNonSeq (s : State) (w : Word) : (s.logUnimplemented w).fetchNonSeq = s.fetchNonSeq := rfl
@[simp] theorem State.logUnimplemented_condPassed (s : State) (w : Word) : (s.logUnimplemented w).condPassed = s.condPassed := rfl
@[simp] theorem State.logUnimplemented_icacheArm (s : State) (w : Word) : (s.logUnimplemented w).icacheArm = s.icacheArm := rfl
@[simp] theorem State.logUnimplemented_icacheThumb (s : State) (w : Word) : (s.logUnimplemented w).icacheThumb = s.icacheThumb := rfl
@[simp] theorem State.logUnimplemented_mem (s : State) (w : Word) : (s.logUnimplemented w).mem = s.mem := rfl
@[simp] theorem State.logUnimplemented_log (s : State) (w : Word) :
    (s.logUnimplemented w).log = w :: s.log := rfl

/-! ### advance -/

@[simp] theorem State.advance_n (s : State) : s.advance.n = s.n := rfl
@[simp] theorem State.advance_z (s : State) : s.advance.z = s.z := rfl
@[simp] theorem State.advance_c (s : State) : s.advance.c = s.c := rfl
@[simp] theorem State.advance_v (s : State) : s.advance.v = s.v := rfl
@[simp] theorem State.advance_i (s : State) : s.advance.i = s.i := rfl
@[simp] theorem State.advance_f (s : State) : s.advance.f = s.f := rfl
@[simp] theorem State.advance_t (s : State) : s.advance.t = s.t := rfl
@[simp] theorem State.advance_mode (s : State) : s.advance.mode = s.mode := rfl
@[simp] theorem State.advance_spsr (s : State) : s.advance.spsr = s.spsr := rfl
@[simp] theorem State.advance_shadow (s : State) : s.advance.shadow = s.shadow := rfl
@[simp] theorem State.advance_shadow8_12 (s : State) : s.advance.shadow8_12 = s.shadow8_12 := rfl
@[simp] theorem State.advance_cycles (s : State) : s.advance.cycles = s.cycles := rfl
@[simp] theorem State.advance_fetchNonSeq (s : State) : s.advance.fetchNonSeq = s.fetchNonSeq := rfl
@[simp] theorem State.advance_condPassed (s : State) :
    s.advance.condPassed = true := rfl
@[simp] theorem State.advance_icacheArm (s : State) : s.advance.icacheArm = s.icacheArm := rfl
@[simp] theorem State.advance_icacheThumb (s : State) : s.advance.icacheThumb = s.icacheThumb := rfl
@[simp] theorem State.advance_mem (s : State) : s.advance.mem = s.mem := rfl
@[simp] theorem State.advance_log (s : State) : s.advance.log = s.log := rfl

/-! ### The register accessors -/

@[simp] theorem State.reg_setReg_same (s : State) (r : Reg) (w : Word) : (s.setReg r w).reg r = w := by
  simp [State.reg, State.setReg]

@[simp] theorem State.reg_setReg_ne (s : State) {r q : Reg} (w : Word) (h : q ≠ r) :
    (s.setReg r w).reg q = s.reg q := by
  have h' : r.toNat ≠ q.toNat := fun e => h (BitVec.eq_of_toNat_eq e.symm)
  simp [State.reg, State.setReg, Vector.getElem_set_ne, h']

theorem State.reg_setReg (s : State) (r q : Reg) (w : Word) :
    (s.setReg r w).reg q = if q = r then w else s.reg q := by
  split
  · next h => subst h; simp
  · next h => simp [h]

/-- `x[15]` is register 15. -/
theorem State.pc_eq_reg (s : State) : s.pc = s.reg Reg.pc := rfl

theorem State.setPc_eq (s : State) (w : Word) : s.setPc w = s.setReg Reg.pc w := rfl

@[simp] theorem State.reg_setPc_pc (s : State) (w : Word) : (s.setPc w).reg Reg.pc = w := s.reg_setReg_same _ w

@[simp] theorem State.pc_setPc (s : State) (w : Word) : (s.setPc w).pc = w := s.reg_setReg_same _ w

@[simp] theorem State.reg_setPc_ne (s : State) {q : Reg} (w : Word) (h : q ≠ Reg.pc) :
    (s.setPc w).reg q = s.reg q := s.reg_setReg_ne w h

theorem State.pc_setReg_ne (s : State) {r : Reg} (w : Word) (h : Reg.pc ≠ r) : (s.setReg r w).pc = s.pc :=
  s.reg_setReg_ne w h

/-- A register reads the same in two states with the same register file. -/
theorem State.reg_congr {s t : State} (h : t.x = s.x) (r : Reg) : t.reg r = s.reg r := by
  simp [State.reg, h]

theorem State.pc_congr {s t : State} (h : t.x = s.x) : t.pc = s.pc := State.reg_congr h Reg.pc

@[simp] theorem State.reg_fetchCost (s : State) (q : Reg) : s.fetchCost.reg q = s.reg q := rfl
@[simp] theorem State.pc_fetchCost (s : State) : s.fetchCost.pc = s.pc := rfl
@[simp] theorem State.reg_internalCycles (s : State) (k : Nat) (q : Reg) : (s.internalCycles k).reg q = s.reg q := rfl
@[simp] theorem State.pc_internalCycles (s : State) (k : Nat) : (s.internalCycles k).pc = s.pc := rfl
@[simp] theorem State.reg_internalCycle (s : State) (q : Reg) : s.internalCycle.reg q = s.reg q := rfl
@[simp] theorem State.pc_internalCycle (s : State) : s.internalCycle.pc = s.pc := rfl
@[simp] theorem State.reg_refillCost (s : State) (p : Word) (q : Reg) : (s.refillCost p).reg q = s.reg q := rfl
@[simp] theorem State.pc_refillCost (s : State) (p : Word) : (s.refillCost p).pc = s.pc := rfl
@[simp] theorem State.reg_dataCost (s : State) (w : Width) (sq : Bool) (a : Word) (q : Reg) : (s.dataCost w sq a).reg q = s.reg q := rfl
@[simp] theorem State.pc_dataCost (s : State) (w : Width) (sq : Bool) (a : Word) : (s.dataCost w sq a).pc = s.pc := rfl
@[simp] theorem State.reg_setByte (s : State) (a : Word) (b : Byte) (q : Reg) : (s.setByte a b).reg q = s.reg q := rfl
@[simp] theorem State.pc_setByte (s : State) (a : Word) (b : Byte) : (s.setByte a b).pc = s.pc := rfl
@[simp] theorem State.reg_invalidateByte (s : State) (a : Word) (q : Reg) : (s.invalidateByte a).reg q = s.reg q := rfl
@[simp] theorem State.pc_invalidateByte (s : State) (a : Word) : (s.invalidateByte a).pc = s.pc := rfl
@[simp] theorem State.reg_setNZ (s : State) (w : Word) (q : Reg) : (s.setNZ w).reg q = s.reg q := rfl
@[simp] theorem State.pc_setNZ (s : State) (w : Word) : (s.setNZ w).pc = s.pc := rfl
@[simp] theorem State.reg_setNZ64 (s : State) (w : BitVec 64) (q : Reg) : (s.setNZ64 w).reg q = s.reg q := rfl
@[simp] theorem State.pc_setNZ64 (s : State) (w : BitVec 64) : (s.setNZ64 w).pc = s.pc := rfl
@[simp] theorem State.reg_setFlagsArithmetic (s : State) (r : AluResult) (q : Reg) : (s.setFlagsArithmetic r).reg q = s.reg q := rfl
@[simp] theorem State.pc_setFlagsArithmetic (s : State) (r : AluResult) : (s.setFlagsArithmetic r).pc = s.pc := rfl
@[simp] theorem State.reg_setFlagsLogical (s : State) (w : Word) (k : Bool) (q : Reg) : (s.setFlagsLogical w k).reg q = s.reg q := rfl
@[simp] theorem State.pc_setFlagsLogical (s : State) (w : Word) (k : Bool) : (s.setFlagsLogical w k).pc = s.pc := rfl
@[simp] theorem State.reg_logUnimplemented (s : State) (w : Word) (q : Reg) : (s.logUnimplemented w).reg q = s.reg q := rfl
@[simp] theorem State.pc_logUnimplemented (s : State) (w : Word) : (s.logUnimplemented w).pc = s.pc := rfl

@[simp] theorem State.pc_advance (s : State) : s.advance.pc = s.pc + s.width := s.pc_setPc _

@[simp] theorem State.reg_advance (s : State) {q : Reg} (h : q ≠ Reg.pc) : s.advance.reg q = s.reg q :=
  s.reg_setPc_ne _ h

/-! ### Memory under updates that do not touch it -/

/-- A byte reads the same in two states with the same memory. -/
theorem State.byteAt_congr {s t : State} (h : t.mem = s.mem) (a : Word) : t.byteAt a = s.byteAt a := by
  simp [State.byteAt, h]

@[simp] theorem State.byteAt_setReg (s : State) (r : Reg) (w : Word) (a : Word) : (s.setReg r w).byteAt a = s.byteAt a := rfl
@[simp] theorem State.byteAt_setPc (s : State) (w : Word) (a : Word) : (s.setPc w).byteAt a = s.byteAt a := rfl
@[simp] theorem State.byteAt_fetchCost (s : State) (a : Word) : s.fetchCost.byteAt a = s.byteAt a := rfl
@[simp] theorem State.byteAt_internalCycles (s : State) (k : Nat) (a : Word) : (s.internalCycles k).byteAt a = s.byteAt a := rfl
@[simp] theorem State.byteAt_internalCycle (s : State) (a : Word) : s.internalCycle.byteAt a = s.byteAt a := rfl
@[simp] theorem State.byteAt_refillCost (s : State) (p : Word) (a : Word) : (s.refillCost p).byteAt a = s.byteAt a := rfl
@[simp] theorem State.byteAt_dataCost (s : State) (w : Width) (sq : Bool) (p : Word) (a : Word) : (s.dataCost w sq p).byteAt a = s.byteAt a := rfl
@[simp] theorem State.byteAt_invalidateByte (s : State) (p : Word) (a : Word) : (s.invalidateByte p).byteAt a = s.byteAt a := rfl
@[simp] theorem State.byteAt_setNZ (s : State) (w : Word) (a : Word) : (s.setNZ w).byteAt a = s.byteAt a := rfl
@[simp] theorem State.byteAt_setNZ64 (s : State) (w : BitVec 64) (a : Word) : (s.setNZ64 w).byteAt a = s.byteAt a := rfl
@[simp] theorem State.byteAt_setFlagsArithmetic (s : State) (r : AluResult) (a : Word) : (s.setFlagsArithmetic r).byteAt a = s.byteAt a := rfl
@[simp] theorem State.byteAt_setFlagsLogical (s : State) (w : Word) (k : Bool) (a : Word) : (s.setFlagsLogical w k).byteAt a = s.byteAt a := rfl
@[simp] theorem State.byteAt_branchExchange (s : State) (w : Word) (a : Word) : (s.branchExchange w).byteAt a = s.byteAt a := rfl
@[simp] theorem State.byteAt_logUnimplemented (s : State) (w : Word) (a : Word) : (s.logUnimplemented w).byteAt a = s.byteAt a := rfl
@[simp] theorem State.byteAt_advance (s : State) (a : Word) : s.advance.byteAt a = s.byteAt a := rfl

/-! ### Outcomes -/

@[simp] theorem Result.andThen_next (s : State) (k : State → Result) : Result.andThen (.next s) k = k s := rfl

@[simp] theorem Result.andThen_fault (e : Fault) (k : State → Result) : Result.andThen (.fault e) k = .fault e := rfl

@[simp] theorem Result.andThen_refused (e : Refusal) (k : State → Result) :
    Result.andThen (.refused e) k = .refused e := rfl

/-- An operation after another answers a next state only through a next state of the first. -/
theorem Result.andThen_eq_next {r : Result} {k : State → Result} {t : State} (h : Result.andThen r k = .next t) :
    ∃ u, r = .next u ∧ k u = .next t := by
  cases r with
  | next u => exact ⟨u, rfl, h⟩
  | fault e => cases h
  | refused e => cases h

end Sys2Proof.Machine
end

