-- ==== Sys2Proof/Laws/Memory.lean ====
section
/-!
SUPPORT. The laws of the association lists, of the byte map and of the stores (spec/20_memory.md R67, R71, R84): a read
after a write, what a write leaves alone, and that every memory operation keeps the canonical form.
-/

namespace Sys2Proof.Machine

/-! ### Association lists -/

theorem SortedMap.find_insert {α : Type} (k j : Nat) (a : α) (l : List (Nat × α)) :
    SortedMap.find j (SortedMap.insert k a l) = if j = k then some a else SortedMap.find j l := by
  induction l with
  | nil =>
    simp only [SortedMap.insert, SortedMap.find]
    by_cases h : k = j
    · simp [h]
    · simp [h, Ne.symm h]
  | cons e rest ih =>
    simp only [SortedMap.insert]
    split
    · simp only [SortedMap.find]
      by_cases h : k = j
      · simp [h]
      · simp [h, Ne.symm h]
    · split
      · next h => subst h
                  simp only [SortedMap.find]
                  by_cases h : e.1 = j
                  · simp [h]
                  · simp [h, Ne.symm h]
      · next h =>
        simp only [SortedMap.find, ih]
        by_cases h1 : e.1 = j
        · have : j ≠ k := fun x => h (by omega)
          simp [h1, this]
        · simp [h1]

theorem SortedMap.find_erase {α : Type} (k j : Nat) (l : List (Nat × α)) :
    SortedMap.find j (SortedMap.erase k l) = if j = k then none else SortedMap.find j l := by
  induction l with
  | nil => simp [SortedMap.erase, SortedMap.find]
  | cons e rest ih =>
    simp only [SortedMap.erase]
    split
    · next h =>
      rw [ih]
      by_cases hj : j = k
      · simp [hj]
      · have : e.1 ≠ j := by omega
        simp [hj, SortedMap.find, this]
    · next h =>
      simp only [SortedMap.find, ih]
      by_cases hj : e.1 = j
      · have : j ≠ k := by omega
        simp [hj, this]
      · simp [hj]

theorem SortedMap.mem_of_find {α : Type} {k : Nat} {a : α} {l : List (Nat × α)} (h : SortedMap.find k l = some a) :
    (k, a) ∈ l := by
  induction l with
  | nil => simp [SortedMap.find] at h
  | cons e rest ih =>
    simp only [SortedMap.find] at h
    split at h
    · next hk => cases h; subst hk; exact List.mem_cons_self
    · exact List.mem_cons_of_mem _ (ih h)

theorem SortedMap.find_of_mem {α : Type} {k : Nat} {a : α} {l : List (Nat × α)} (hr : SortedMap.rising l)
    (h : (k, a) ∈ l) : SortedMap.find k l = some a := by
  induction l with
  | nil => cases h
  | cons e rest ih =>
    rw [SortedMap.rising, List.pairwise_cons] at hr
    rcases List.mem_cons.1 h with rfl | h'
    · simp [SortedMap.find]
    · have := hr.1 _ h'
      simp only [SortedMap.find]
      rw [if_neg (by omega)]
      exact ih hr.2 h'

theorem SortedMap.mem_insert {α : Type} {k : Nat} {a : α} {l : List (Nat × α)} {e : Nat × α}
    (h : e ∈ SortedMap.insert k a l) : e = (k, a) ∨ e ∈ l := by
  induction l with
  | nil => simpa [SortedMap.insert] using h
  | cons d rest ih =>
    simp only [SortedMap.insert] at h
    split at h
    · rcases List.mem_cons.1 h with h | h
      · exact .inl h
      · exact .inr h
    · split at h
      · rcases List.mem_cons.1 h with h | h
        · exact .inl h
        · exact .inr (List.mem_cons_of_mem _ h)
      · rcases List.mem_cons.1 h with h | h
        · exact .inr (h ▸ List.mem_cons_self)
        · rcases ih h with h | h
          · exact .inl h
          · exact .inr (List.mem_cons_of_mem _ h)

theorem SortedMap.mem_erase {α : Type} {k : Nat} {l : List (Nat × α)} {e : Nat × α} :
    e ∈ SortedMap.erase k l ↔ e ∈ l ∧ e.1 ≠ k := by
  induction l with
  | nil => simp [SortedMap.erase]
  | cons d rest ih =>
    simp only [SortedMap.erase]
    split
    · next h =>
      rw [ih, List.mem_cons]
      constructor
      · rintro ⟨h1, h2⟩; exact ⟨.inr h1, h2⟩
      · rintro ⟨rfl | h1, h2⟩
        · exact absurd h h2
        · exact ⟨h1, h2⟩
    · next h =>
      rw [List.mem_cons, List.mem_cons, ih]
      constructor
      · rintro (rfl | ⟨h1, h2⟩)
        · exact ⟨.inl rfl, h⟩
        · exact ⟨.inr h1, h2⟩
      · rintro ⟨rfl | h1, h2⟩
        · exact .inl rfl
        · exact .inr ⟨h1, h2⟩

theorem SortedMap.rising_insert {α : Type} (k : Nat) (a : α) {l : List (Nat × α)} (h : SortedMap.rising l) :
    SortedMap.rising (SortedMap.insert k a l) := by
  induction l with
  | nil => simp [SortedMap.insert, SortedMap.rising]
  | cons e rest ih =>
    have h' := h
    rw [SortedMap.rising, List.pairwise_cons] at h
    simp only [SortedMap.insert]
    split
    · next hk =>
      rw [SortedMap.rising, List.pairwise_cons]
      refine ⟨fun d hd => ?_, h'⟩
      rcases List.mem_cons.1 hd with rfl | hd
      · exact hk
      · exact Nat.lt_trans hk (h.1 d hd)
    · split
      · next hk =>
        rw [SortedMap.rising, List.pairwise_cons]
        exact ⟨fun d hd => by have := h.1 d hd; simp only; omega, h.2⟩
      · next h1 h2 =>
        rw [SortedMap.rising, List.pairwise_cons]
        refine ⟨fun d hd => ?_, ih h.2⟩
        rcases SortedMap.mem_insert hd with rfl | hd
        · simp only; omega
        · exact h.1 d hd

theorem SortedMap.rising_erase {α : Type} (k : Nat) {l : List (Nat × α)} (h : SortedMap.rising l) :
    SortedMap.rising (SortedMap.erase k l) := by
  induction l with
  | nil => simp [SortedMap.erase, SortedMap.rising]
  | cons e rest ih =>
    rw [SortedMap.rising, List.pairwise_cons] at h
    simp only [SortedMap.erase]
    split
    · exact ih h.2
    · rw [SortedMap.rising, List.pairwise_cons]
      exact ⟨fun d hd => h.1 d (SortedMap.mem_erase.1 hd).1, ih h.2⟩

/-! ### The byte map -/

/-- A read after a write. -/
theorem Memory.read_write (m : List Host.Cell) (a j : Nat) (b : Byte) :
    Memory.read (Memory.write m a b) j = if j = a then b else Memory.read m j := by
  unfold Memory.read Memory.write
  split
  · next h =>
    rw [SortedMap.find_erase]
    by_cases hj : j = a
    · simp [hj, h]
    · simp [hj]
  · rw [SortedMap.find_insert]
    by_cases hj : j = a
    · simp [hj]
    · simp [hj]

/-- A write keeps the canonical form. -/
theorem Memory.wf_write {m : List Host.Cell} (h : Memory.wf m) {a : Nat} (ha : a < 2 ^ 32) (b : Byte) :
    Memory.wf (Memory.write m a b) := by
  unfold Memory.write
  split
  · exact ⟨SortedMap.rising_erase a h.1, fun e he => h.2 e (SortedMap.mem_erase.1 he).1⟩
  · next hb =>
    refine ⟨SortedMap.rising_insert a b h.1, fun e he => ?_⟩
    rcases SortedMap.mem_insert he with rfl | he
    · exact ⟨ha, hb⟩
    · exact h.2 e he

theorem Memory.wf_nil : Memory.wf [] := ⟨List.Pairwise.nil, fun _ h => nomatch h⟩

theorem State.byteAt_setByte (s : State) (a c : Word) (b : Byte) :
    (s.setByte a b).byteAt c = if c = a then b else s.byteAt c := by
  simp only [State.byteAt, State.setByte_mem, Memory.read_write]
  by_cases h : c = a
  · simp [h]
  · have : c.toNat ≠ a.toNat := fun e => h (BitVec.eq_of_toNat_eq e)
    simp [h, this]

theorem State.setByte_wf {s : State} (h : Memory.wf s.mem) (a : Word) (b : Byte) : Memory.wf (s.setByte a b).mem :=
  Memory.wf_write h a.isLt b

/-! ### Invalidation -/

/-- `invalidate` touches the cache alone. -/
theorem State.invalidate_eq (s : State) (a : Word) (n : Nat) :
    s.invalidate a n =
      { s with icacheArm := (s.invalidate a n).icacheArm, icacheThumb := (s.invalidate a n).icacheThumb } := by
  induction n with
  | zero => rfl
  | succ n ih => rw [State.invalidate, State.invalidateByte, ih]

@[simp] theorem State.invalidate_mem (s : State) (a : Word) (n : Nat) : (s.invalidate a n).mem = s.mem := by
  rw [State.invalidate_eq]

@[simp] theorem State.byteAt_invalidate (s : State) (p : Word) (n : Nat) (a : Word) :
    (s.invalidate p n).byteAt a = s.byteAt a := State.byteAt_congr (by simp) a

@[simp] theorem State.invalidate_x (s : State) (a : Word) (n : Nat) : (s.invalidate a n).x = s.x := by
  rw [State.invalidate_eq]

/-- An ARM entry is gone when its granule contains an invalidated byte, and is otherwise as before (R84). -/
theorem State.find_icacheArm_invalidate (s : State) (a : Word) (n k : Nat) :
    SortedMap.find k (s.invalidate a n).icacheArm =
      if ∃ j, j < n ∧ (alignWord (a + BitVec.ofNat 32 j)).toNat = k then none else SortedMap.find k s.icacheArm := by
  induction n with
  | zero => simp [State.invalidate]
  | succ n ih =>
    rw [State.invalidate, State.invalidateByte_icacheArm, SortedMap.find_erase, ih]
    by_cases hk : k = (alignWord (a + BitVec.ofNat 32 n)).toNat
    · rw [if_pos hk, if_pos ⟨n, Nat.lt_succ_self n, hk.symm⟩]
    · rw [if_neg hk]
      by_cases h : ∃ j, j < n ∧ (alignWord (a + BitVec.ofNat 32 j)).toNat = k
      · obtain ⟨j, hj, e⟩ := h
        rw [if_pos ⟨j, hj, e⟩, if_pos ⟨j, Nat.lt_succ_of_lt hj, e⟩]
      · rw [if_neg h, if_neg]
        rintro ⟨j, hj, e⟩
        rcases Nat.lt_succ_iff_lt_or_eq.1 hj with hj | rfl
        · exact h ⟨j, hj, e⟩
        · exact hk e.symm

/-- A Thumb entry is gone when its granule contains an invalidated byte, and is otherwise as before (R84). -/
theorem State.find_icacheThumb_invalidate (s : State) (a : Word) (n k : Nat) :
    SortedMap.find k (s.invalidate a n).icacheThumb =
      if ∃ j, j < n ∧ (alignHalf (a + BitVec.ofNat 32 j)).toNat = k then none else SortedMap.find k s.icacheThumb := by
  induction n with
  | zero => simp [State.invalidate]
  | succ n ih =>
    rw [State.invalidate, State.invalidateByte_icacheThumb, SortedMap.find_erase, ih]
    by_cases hk : k = (alignHalf (a + BitVec.ofNat 32 n)).toNat
    · rw [if_pos hk, if_pos ⟨n, Nat.lt_succ_self n, hk.symm⟩]
    · rw [if_neg hk]
      by_cases h : ∃ j, j < n ∧ (alignHalf (a + BitVec.ofNat 32 j)).toNat = k
      · obtain ⟨j, hj, e⟩ := h
        rw [if_pos ⟨j, hj, e⟩, if_pos ⟨j, Nat.lt_succ_of_lt hj, e⟩]
      · rw [if_neg h, if_neg]
        rintro ⟨j, hj, e⟩
        rcases Nat.lt_succ_iff_lt_or_eq.1 hj with hj | rfl
        · exact h ⟨j, hj, e⟩
        · exact hk e.symm

theorem State.mem_icacheArm_invalidate {s : State} {a : Word} {n : Nat} {e : Nat × DecodedOp} :
    e ∈ (s.invalidate a n).icacheArm ↔
      e ∈ s.icacheArm ∧ ∀ j, j < n → (alignWord (a + BitVec.ofNat 32 j)).toNat ≠ e.1 := by
  induction n with
  | zero => simp [State.invalidate]
  | succ n ih =>
    rw [State.invalidate, State.invalidateByte_icacheArm, SortedMap.mem_erase, ih]
    constructor
    · rintro ⟨⟨h1, h2⟩, h3⟩
      refine ⟨h1, fun j hj => ?_⟩
      rcases Nat.lt_succ_iff_lt_or_eq.1 hj with hj | rfl
      · exact h2 j hj
      · exact fun e => h3 e.symm
    · rintro ⟨h1, h2⟩
      exact ⟨⟨h1, fun j hj => h2 j (Nat.lt_succ_of_lt hj)⟩, fun e => h2 n (Nat.lt_succ_self n) e.symm⟩

theorem State.mem_icacheThumb_invalidate {s : State} {a : Word} {n : Nat} {e : Nat × DecodedOp} :
    e ∈ (s.invalidate a n).icacheThumb ↔
      e ∈ s.icacheThumb ∧ ∀ j, j < n → (alignHalf (a + BitVec.ofNat 32 j)).toNat ≠ e.1 := by
  induction n with
  | zero => simp [State.invalidate]
  | succ n ih =>
    rw [State.invalidate, State.invalidateByte_icacheThumb, SortedMap.mem_erase, ih]
    constructor
    · rintro ⟨⟨h1, h2⟩, h3⟩
      refine ⟨h1, fun j hj => ?_⟩
      rcases Nat.lt_succ_iff_lt_or_eq.1 hj with hj | rfl
      · exact h2 j hj
      · exact fun e => h3 e.symm
    · rintro ⟨h1, h2⟩
      exact ⟨⟨h1, fun j hj => h2 j (Nat.lt_succ_of_lt hj)⟩, fun e => h2 n (Nat.lt_succ_self n) e.symm⟩

theorem State.rising_icacheArm_invalidate {s : State} (a : Word) (n : Nat) (h : SortedMap.rising s.icacheArm) :
    SortedMap.rising (s.invalidate a n).icacheArm := by
  induction n with
  | zero => exact h
  | succ n ih => exact SortedMap.rising_erase _ ih

theorem State.rising_icacheThumb_invalidate {s : State} (a : Word) (n : Nat) (h : SortedMap.rising s.icacheThumb) :
    SortedMap.rising (s.invalidate a n).icacheThumb := by
  induction n with
  | zero => exact h
  | succ n ih => exact SortedMap.rising_erase _ ih

/-! ### What a store changes -/

/-- What a store leaves alone: everything but memory and the cache. -/
structure State.OnlyMemory (s t : State) : Prop where
  x : t.x = s.x
  flags : t.n = s.n ∧ t.z = s.z ∧ t.c = s.c ∧ t.v = s.v
  control : t.i = s.i ∧ t.f = s.f ∧ t.t = s.t ∧ t.mode = s.mode
  banks : t.spsr = s.spsr ∧ t.shadow = s.shadow ∧ t.shadow8_12 = s.shadow8_12
  timing : t.cycles = s.cycles ∧ t.fetchNonSeq = s.fetchNonSeq ∧ t.condPassed = s.condPassed
  log : t.log = s.log

theorem State.OnlyMemory.refl (s : State) : s.OnlyMemory s :=
  ⟨rfl, ⟨rfl, rfl, rfl, rfl⟩, ⟨rfl, rfl, rfl, rfl⟩, ⟨rfl, rfl, rfl⟩, ⟨rfl, rfl, rfl⟩, rfl⟩

theorem State.OnlyMemory.trans {s t u : State} (h : s.OnlyMemory t) (k : t.OnlyMemory u) : s.OnlyMemory u := by
  obtain ⟨h1, ⟨h2, h3, h4, h5⟩, ⟨h6, h7, h8, h9⟩, ⟨h10, h11, h12⟩, ⟨h13, h14, h15⟩, h16⟩ := h
  obtain ⟨k1, ⟨k2, k3, k4, k5⟩, ⟨k6, k7, k8, k9⟩, ⟨k10, k11, k12⟩, ⟨k13, k14, k15⟩, k16⟩ := k
  exact ⟨k1.trans h1, ⟨k2.trans h2, k3.trans h3, k4.trans h4, k5.trans h5⟩,
    ⟨k6.trans h6, k7.trans h7, k8.trans h8, k9.trans h9⟩, ⟨k10.trans h10, k11.trans h11, k12.trans h12⟩,
    ⟨k13.trans h13, k14.trans h14, k15.trans h15⟩, k16.trans h16⟩

theorem State.onlyMemory_setByte (s : State) (a : Word) (b : Byte) : s.OnlyMemory (s.setByte a b) :=
  ⟨rfl, ⟨rfl, rfl, rfl, rfl⟩, ⟨rfl, rfl, rfl, rfl⟩, ⟨rfl, rfl, rfl⟩, ⟨rfl, rfl, rfl⟩, rfl⟩

theorem State.onlyMemory_invalidate (s : State) (a : Word) (n : Nat) : s.OnlyMemory (s.invalidate a n) := by
  rw [State.invalidate_eq]
  exact ⟨rfl, ⟨rfl, rfl, rfl, rfl⟩, ⟨rfl, rfl, rfl, rfl⟩, ⟨rfl, rfl, rfl⟩, ⟨rfl, rfl, rfl⟩, rfl⟩

theorem State.onlyMemory_memWrite (s : State) (w : Width) (a v : Word) : s.OnlyMemory (s.memWrite w a v) := by
  cases w
  · exact (s.onlyMemory_setByte _ _).trans (State.onlyMemory_invalidate _ _ _)
  · exact ((s.onlyMemory_setByte _ _).trans (State.onlyMemory_setByte _ _ _)).trans (State.onlyMemory_invalidate _ _ _)
  · exact ((((s.onlyMemory_setByte _ _).trans (State.onlyMemory_setByte _ _ _)).trans
      (State.onlyMemory_setByte _ _ _)).trans (State.onlyMemory_setByte _ _ _)).trans (State.onlyMemory_invalidate _ _ _)

theorem State.memWrite_wf {s : State} (h : Memory.wf s.mem) (w : Width) (a v : Word) :
    Memory.wf (s.memWrite w a v).mem := by
  cases w <;> simp only [State.memWrite, State.store8, State.store16, State.store32, State.invalidate_mem]
  · exact State.setByte_wf h _ _
  · exact State.setByte_wf (State.setByte_wf h _ _) _ _
  · exact State.setByte_wf (State.setByte_wf (State.setByte_wf (State.setByte_wf h _ _) _ _) _ _) _ _

/-- The bytes a store writes: `n` of them from its aligned address (R71). -/
def Width.stored (w : Width) (a c : Word) : Prop := ∃ j, j < w.bytes ∧ c = w.storeBase a + BitVec.ofNat 32 j

/-- A store leaves every byte alone but those it writes. -/
theorem State.byteAt_memWrite_other (s : State) (w : Width) (a v c : Word) (h : ¬ w.stored a c) :
    (s.memWrite w a v).byteAt c = s.byteAt c := by
  have key : ∀ j, j < w.bytes → c ≠ w.storeBase a + BitVec.ofNat 32 j := fun j hj e => h ⟨j, hj, e⟩
  cases w
  · have h0 := key 0 (by decide)
    simp only [Width.storeBase, BitVec.add_zero] at h0
    simp [State.memWrite, State.store8, State.byteAt_setByte, h0]
  · have h0 := key 0 (by decide)
    have h1 := key 1 (by decide)
    simp only [Width.storeBase, BitVec.add_zero] at h0 h1
    simp [State.memWrite, State.store16, State.setHalf, State.byteAt_setByte, h0, h1]
  · have h0 := key 0 (by decide)
    have h1 := key 1 (by decide)
    have h2 := key 2 (by decide)
    have h3 := key 3 (by decide)
    simp only [Width.storeBase, BitVec.add_zero] at h0 h1 h2 h3
    simp [State.memWrite, State.store32, State.setWord, State.byteAt_setByte, h0, h1, h2, h3]

/-! ### What a store writes -/

@[simp] theorem State.setHalf_icacheArm (s : State) (a v : Word) : (s.setHalf a v).icacheArm = s.icacheArm := by
  simp only [State.setHalf, State.setByte_icacheArm]

@[simp] theorem State.setHalf_icacheThumb (s : State) (a v : Word) : (s.setHalf a v).icacheThumb = s.icacheThumb := by
  simp only [State.setHalf, State.setByte_icacheThumb]

@[simp] theorem State.setWord_icacheArm (s : State) (a v : Word) : (s.setWord a v).icacheArm = s.icacheArm := by
  simp only [State.setWord, State.setByte_icacheArm]

@[simp] theorem State.setWord_icacheThumb (s : State) (a v : Word) : (s.setWord a v).icacheThumb = s.icacheThumb := by
  simp only [State.setWord, State.setByte_icacheThumb]

/-- The bytes of a store, before the invalidation that follows them. -/
def State.storeBytes (s : State) (w : Width) (a v : Word) : State :=
  match w with
  | .byte => s.setByte a (v.extractLsb' 0 8)
  | .half => s.setHalf (alignHalf a) v
  | .word => s.setWord (alignWord a) v

/-- A store writes its bytes and then invalidates the cache over them (R71, R84). -/
theorem State.memWrite_eq (s : State) (w : Width) (a v : Word) :
    s.memWrite w a v = (s.storeBytes w a v).invalidate (w.storeBase a) w.bytes := by
  cases w <;>
    simp only [State.memWrite, State.store8, State.store16, State.store32, State.storeBytes, Width.storeBase, Width.bytes]

@[simp] theorem State.storeBytes_icacheArm (s : State) (w : Width) (a v : Word) :
    (s.storeBytes w a v).icacheArm = s.icacheArm := by
  cases w <;> simp only [State.storeBytes, State.setByte_icacheArm, State.setHalf_icacheArm, State.setWord_icacheArm]

@[simp] theorem State.storeBytes_icacheThumb (s : State) (w : Width) (a v : Word) :
    (s.storeBytes w a v).icacheThumb = s.icacheThumb := by
  cases w <;>
    simp only [State.storeBytes, State.setByte_icacheThumb, State.setHalf_icacheThumb, State.setWord_icacheThumb]

/-- Four consecutive addresses are different. -/
theorem Word.add_ofNat_ne (a : Word) {i k : Nat} (hi : i < 4) (hk : k < 4) (h : i ≠ k) :
    a + BitVec.ofNat 32 i ≠ a + BitVec.ofNat 32 k := by
  intro e
  have e := congrArg BitVec.toNat e
  simp only [BitVec.toNat_add, BitVec.toNat_ofNat] at e
  have := a.isLt
  omega

/-- The bytes a store writes hold the bytes of its value, the lowest first (R71). -/
theorem State.byteAt_memWrite_stored (s : State) (w : Width) (a v : Word) (j : Nat) (hj : j < w.bytes) :
    (s.memWrite w a v).byteAt (w.storeBase a + BitVec.ofNat 32 j) = v.extractLsb' (8 * j) 8 := by
  cases w
  · obtain rfl : j = 0 := by simpa [Width.bytes] using hj
    simp [State.memWrite, State.store8, Width.storeBase, State.byteAt_setByte]
  · have h0 := Word.add_ofNat_ne (alignHalf a) (i := 0) (k := 1) (by decide) (by decide) (by decide)
    rw [BitVec.add_zero] at h0
    obtain rfl | rfl : j = 0 ∨ j = 1 := by simp only [Width.bytes] at hj; omega
    · simp [State.memWrite, State.store16, State.setHalf, Width.storeBase, State.byteAt_setByte, h0]
    · simp [State.memWrite, State.store16, State.setHalf, Width.storeBase, State.byteAt_setByte]
  · have h01 := Word.add_ofNat_ne (alignWord a) (i := 0) (k := 1) (by decide) (by decide) (by decide)
    have h02 := Word.add_ofNat_ne (alignWord a) (i := 0) (k := 2) (by decide) (by decide) (by decide)
    have h03 := Word.add_ofNat_ne (alignWord a) (i := 0) (k := 3) (by decide) (by decide) (by decide)
    have h12 := Word.add_ofNat_ne (alignWord a) (i := 1) (k := 2) (by decide) (by decide) (by decide)
    have h13 := Word.add_ofNat_ne (alignWord a) (i := 1) (k := 3) (by decide) (by decide) (by decide)
    have h23 := Word.add_ofNat_ne (alignWord a) (i := 2) (k := 3) (by decide) (by decide) (by decide)
    rw [BitVec.add_zero] at h01 h02 h03
    obtain rfl | rfl | rfl | rfl : j = 0 ∨ j = 1 ∨ j = 2 ∨ j = 3 := by simp only [Width.bytes] at hj; omega
    · simp [State.memWrite, State.store32, State.setWord, Width.storeBase, State.byteAt_setByte, h01, h02, h03]
    · simp [State.memWrite, State.store32, State.setWord, Width.storeBase, State.byteAt_setByte, h12, h13]
    · simp [State.memWrite, State.store32, State.setWord, Width.storeBase, State.byteAt_setByte, h23]
    · simp [State.memWrite, State.store32, State.setWord, Width.storeBase, State.byteAt_setByte]

/-! ### External writes -/

theorem State.onlyMemory_setBytes (s : State) (a : Word) (bs : List Byte) : s.OnlyMemory (s.setBytes a bs) := by
  induction bs generalizing s a with
  | nil => exact State.OnlyMemory.refl s
  | cons b rest ih => exact (s.onlyMemory_setByte a b).trans (ih _ _)

theorem State.setBytes_wf {s : State} (h : Memory.wf s.mem) (a : Word) (bs : List Byte) :
    Memory.wf (s.setBytes a bs).mem := by
  induction bs generalizing s a with
  | nil => exact h
  | cons b rest ih => exact ih (State.setByte_wf h a b) _

theorem State.externalWrite_wf {s : State} (h : Memory.wf s.mem) (a : Word) (bs : List Byte) :
    Memory.wf (s.externalWrite a bs).mem := by
  simp only [State.externalWrite, State.invalidate_mem]
  exact State.setBytes_wf h a bs

end Sys2Proof.Machine
end

