-- ==== Sys2Proof/Laws/Operations.lean ====
section
/-!
SUPPORT. One law per shared operation, saying once what it can do, so that no later proof unfolds it: the prologue, data
processing, the single and block transfers, the mode switch, taking an exception and returning from one, the fetch and
the write-PC path, the events on a faulted machine.
-/

namespace Sys2Proof.Machine

/-! ### The prologue (R156) -/

@[simp] theorem State.conditionPassed_fetchCost (s : State) (c : Cond) :
    s.fetchCost.conditionPassed c = s.conditionPassed c := by cases c <;> rfl

theorem State.prologue_passed {s : State} {c : Cond} (h : s.conditionPassed c = true) (body : State → Result) :
    s.prologue c body = body s.fetchCost := by
  simp [State.prologue, h]

theorem State.prologue_failed {s : State} {c : Cond} (h : s.conditionPassed c = false) (body : State → Result) :
    s.prologue c body = .next { s.fetchCost with condPassed := false } := by
  simp [State.prologue, h]

/-- What an operation behind the prologue can answer: the body's answer, or a next state that charged the fetch. -/
theorem State.prologue_cases (s : State) (c : Cond) (body : State → Result) :
    (s.conditionPassed c = true ∧ s.prologue c body = body s.fetchCost) ∨
    (s.conditionPassed c = false ∧ s.prologue c body = .next { s.fetchCost with condPassed := false }) := by
  cases h : s.conditionPassed c
  · exact .inr ⟨rfl, State.prologue_failed h body⟩
  · exact .inl ⟨rfl, State.prologue_passed h body⟩

/-- A fault behind the prologue is the body's. -/
theorem State.prologue_eq_fault {s : State} {c : Cond} {body : State → Result} {e : Fault}
    (h : s.prologue c body = .fault e) : body s.fetchCost = .fault e := by
  rcases s.prologue_cases c body with ⟨-, k⟩ | ⟨-, k⟩
  · exact k ▸ h
  · rw [k] at h; cases h

/-- A refusal behind the prologue is the body's. -/
theorem State.prologue_eq_refused {s : State} {c : Cond} {body : State → Result} {e : Refusal}
    (h : s.prologue c body = .refused e) : body s.fetchCost = .refused e := by
  rcases s.prologue_cases c body with ⟨-, k⟩ | ⟨-, k⟩
  · exact k ▸ h
  · rw [k] at h; cases h

/-- The fetch cost only ever adds cycles. -/
theorem State.le_fetchCost_cycles (s : State) : s.cycles ≤ s.fetchCost.cycles := Nat.le_add_right _ _

/-! ### Data processing (R211) -/

theorem Operand2.readReg_internalCycle (form : Operand2) (s : State) (r : Reg) :
    form.readReg s.internalCycle r = form.readReg s r := by cases form <;> rfl

theorem Operand2.eval_internalCycle (form : Operand2) (s : State) : form.eval s.internalCycle = form.eval s := by
  cases form <;> rfl

theorem Operand2.readReg_fetchCost (form : Operand2) (s : State) (r : Reg) :
    form.readReg s.fetchCost r = form.readReg s r := by cases form <;> rfl

theorem Operand2.eval_fetchCost (form : Operand2) (s : State) : form.eval s.fetchCost = form.eval s := by
  cases form <;> rfl

/-- The state data processing computes its operands in: the extra cycle of a register-specified shift is charged. -/
def State.shifted (s : State) (form : Operand2) : State := s.internalCycles (if form.isRegShift then 1 else 0)

theorem State.shifted_eq (s : State) (form : Operand2) :
    (if form.isRegShift then s.internalCycle else s) = s.shifted form := by
  unfold State.shifted State.internalCycle; split <;> rfl

/-- The result data processing computes. -/
def Operand2.compute (form : Operand2) (op : DpOp) (rn : Reg) (s : State) : AluResult :=
  dpCompute op (form.readReg s rn) (form.eval s).value s.c

theorem dataProcessingBody_eq (op : DpOp) (setS : Bool) (rn rd : Reg) (form : Operand2) (s : State) :
    dataProcessingBody op setS rn rd form s =
      if dpIsTest op then .next ((s.shifted form).setFlags op (form.compute op rn s) (form.eval s).carry)
      else if rd = Reg.pc then
        if setS then (s.shifted form).returnFromException (form.compute op rn s).value
        else .next ((s.shifted form).setPc (form.compute op rn s).value)
      else
        .next (if setS then ((s.shifted form).setReg rd (form.compute op rn s).value).setFlags op
                (form.compute op rn s) (form.eval s).carry
              else (s.shifted form).setReg rd (form.compute op rn s).value) := by
  unfold dataProcessingBody
  rw [State.shifted_eq]
  have e : form.eval (s.shifted form) = form.eval s := by cases form <;> rfl
  have r : form.readReg (s.shifted form) rn = form.readReg s rn := by cases form <;> rfl
  simp only [e, r]
  rfl

/-! ### Flags -/

/-- Setting the flags changes N, Z, C and V alone. -/
theorem State.setFlags_eq (s : State) (op : DpOp) (r : AluResult) (k : Bool) :
    s.setFlags op r k =
      { s with n := r.value.msb, z := r.value == 0#32, c := if dpIsArithmetic op then r.carry else k
               v := if dpIsArithmetic op then r.overflow else s.v } := by
  unfold State.setFlags; split <;> rfl

theorem State.reg_setFlags (s : State) (op : DpOp) (r : AluResult) (k : Bool) (q : Reg) :
    (s.setFlags op r k).reg q = s.reg q := by rw [State.setFlags_eq]; rfl

/-! ### Single transfers (R277) -/

/-- A single load: the registers after it. -/
theorem State.reg_loadSingle (s : State) (kind : LoadKind) (a : TransferAddress) (rn rd q : Reg) :
    (s.loadSingle kind a rn rd).reg q =
      if q = rd then s.memRead kind a.addr else if a.wback = true ∧ q = rn then a.offaddr else s.reg q := by
  unfold State.loadSingle
  simp only [State.reg_internalCycle, State.reg_setReg]
  split
  · rfl
  · cases a.wback <;> simp [State.reg_setReg]

/-- A single load changes registers and timing alone. -/
theorem State.loadSingle_eq (s : State) (kind : LoadKind) (a : TransferAddress) (rn rd : Reg) :
    s.loadSingle kind a rn rd =
      { s with x := (s.loadSingle kind a rn rd).x
               cycles := (s.dataCost kind.width false a.addr).cycles + 1, fetchNonSeq := true } := by
  unfold State.loadSingle; cases a.wback <;> rfl

/-- A single store: the registers after it. -/
theorem State.reg_storeSingle (s : State) (w : Width) (a : TransferAddress) (rn : Reg) (v : Word) (q : Reg) :
    (s.storeSingle w a rn v).reg q = if a.wback = true ∧ q = rn then a.offaddr else s.reg q := by
  have h : ∀ q, ((s.memWrite w a.addr v).dataCost w false a.addr).reg q = s.reg q := fun q =>
    State.reg_congr (s.onlyMemory_memWrite w a.addr v).x q
  unfold State.storeSingle
  cases a.wback <;> simp [State.reg_setReg, h]

/-- A single store changes registers, memory, the cache and timing alone. -/
theorem State.storeSingle_eq (s : State) (w : Width) (a : TransferAddress) (rn : Reg) (v : Word) :
    s.storeSingle w a rn v =
      { s.memWrite w a.addr v with
          x := (s.storeSingle w a rn v).x
          cycles := (s.dataCost w false a.addr).cycles, fetchNonSeq := true } := by
  have h := (s.onlyMemory_memWrite w a.addr v).timing.1
  unfold State.storeSingle
  cases a.wback <;> simp only [State.dataCost, State.setReg, h] <;> rfl

/-- A swap: the registers after it. -/
theorem State.reg_swap (s : State) (kind : LoadKind) (w : Width) (f : SwpForm) (q : Reg) :
    (s.swap kind w f).reg q = if q = f.rd then s.memRead kind (s.reg f.rn) else s.reg q := by
  unfold State.swap
  simp only [State.reg_internalCycle, State.reg_setReg, State.reg_dataCost]
  split
  · rfl
  · exact State.reg_congr (State.onlyMemory_memWrite _ w _ _).x q

/-! ### Block transfers -/

/-- The cost of a block transfer changes timing alone. -/
theorem State.blockCost_eq (s : State) (a : Word) (sq : Bool) (n : Nat) :
    s.blockCost n a sq =
      { s with cycles := (s.blockCost n a sq).cycles, fetchNonSeq := (s.blockCost n a sq).fetchNonSeq } := by
  induction n generalizing s a sq with
  | zero => rfl
  | succ n ih => rw [State.blockCost, ih]; rfl

theorem State.reg_blockCost (s : State) (a : Word) (sq : Bool) (n : Nat) (q : Reg) :
    (s.blockCost n a sq).reg q = s.reg q := by rw [State.blockCost_eq]; rfl

/-- A block transfer leaves the next fetch non-sequential (R503). -/
theorem State.blockCost_fetchNonSeq (s : State) (a : Word) (sq : Bool) (n : Nat) :
    (s.blockCost (n + 1) a sq).fetchNonSeq = true := by
  induction n generalizing s a sq with
  | zero => rfl
  | succ n ih => rw [State.blockCost]; exact ih _ _ _

theorem State.le_blockCost_cycles (s : State) (a : Word) (sq : Bool) (n : Nat) :
    s.cycles ≤ (s.blockCost n a sq).cycles := by
  induction n generalizing s a sq with
  | zero => exact Nat.le_refl _
  | succ n ih =>
    rw [State.blockCost]
    exact Nat.le_trans (Nat.le_add_right s.cycles _) (ih (s.dataCost .word sq (alignWord a)) _ _)

/-- A block store changes memory and the cache alone. -/
theorem State.onlyMemory_blockStore (s : State) (a : Word) (vs : List Word) : s.OnlyMemory (s.blockStore vs a) := by
  induction vs generalizing s a with
  | nil => exact State.OnlyMemory.refl s
  | cons v rest ih =>
    rw [State.blockStore]
    exact (s.onlyMemory_memWrite .word (alignWord a) v).trans (ih (s.memWrite .word (alignWord a) v) (a + 4#32))

theorem State.blockStore_wf {s : State} (h : Memory.wf s.mem) (a : Word) (vs : List Word) :
    Memory.wf (s.blockStore vs a).mem := by
  induction vs generalizing s a with
  | nil => exact h
  | cons v rest ih =>
    rw [State.blockStore]
    exact ih (State.memWrite_wf h .word (alignWord a) v) (a + 4#32)

/-- A byte outside every word of a block store is left alone. -/
theorem State.byteAt_blockStore_other (s : State) (a : Word) (vs : List Word) (c : Word)
    (h : ∀ k, k < vs.length → ¬ Width.stored .word (alignWord (a + BitVec.ofNat 32 (4 * k))) c) :
    (s.blockStore vs a).byteAt c = s.byteAt c := by
  induction vs generalizing s a with
  | nil => rfl
  | cons v rest ih =>
    rw [State.blockStore]
    have h0 := h 0 (Nat.succ_pos _)
    rw [Nat.mul_zero, BitVec.add_zero] at h0
    rw [ih (s.memWrite .word (alignWord a) v) (a + 4#32), State.byteAt_memWrite_other s .word _ v c h0]
    intro k hk
    have e : a + 4#32 + BitVec.ofNat 32 (4 * k) = a + BitVec.ofNat 32 (4 * (k + 1)) := by
      apply BitVec.eq_of_toNat_eq; simp only [BitVec.toNat_add, BitVec.toNat_ofNat]; omega
    rw [e]
    exact h (k + 1) (Nat.succ_lt_succ hk)

/-- The registers of a block load, in the order of the list. -/
theorem State.blockData_fst (s : State) (a : Word) (l : List Reg) : (s.blockData a l).map Prod.fst = l := by
  induction l generalizing a with
  | nil => rfl
  | cons r rest ih => rw [State.blockData, List.map_cons, ih]

/-- Loading registers without the user bank changes the live registers alone. -/
theorem State.writeLoaded_live_eq (s : State) (data : List (Reg × Word)) :
    s.writeLoaded data false = { s with x := (s.writeLoaded data false).x } := by
  induction data generalizing s with
  | nil => rfl
  | cons d rest ih =>
    rw [State.writeLoaded, ih, State.writeLoadedOne]
    split <;> rfl

/-- Loading registers changes live registers and banks alone. -/
theorem State.writeLoaded_eq (s : State) (u : Bool) (data : List (Reg × Word)) :
    s.writeLoaded data u =
      { s with x := (s.writeLoaded data u).x, shadow := (s.writeLoaded data u).shadow
               shadow8_12 := (s.writeLoaded data u).shadow8_12 } := by
  induction data generalizing s with
  | nil => rfl
  | cons d rest ih =>
    rw [State.writeLoaded, ih, State.writeLoadedOne]
    split
    · rfl
    · split
      · unfold State.setUserReg
        repeat' split
        all_goals rfl
      · rfl

/-- A register that is not in the list, and register 15, keep their value. -/
theorem State.reg_writeLoaded_other (s : State) (data : List (Reg × Word)) (q : Reg)
    (h : q = Reg.pc ∨ ∀ d ∈ data, d.1 ≠ q) : (s.writeLoaded data false).reg q = s.reg q := by
  induction data generalizing s with
  | nil => rfl
  | cons d rest ih =>
    rw [State.writeLoaded, ih]
    · rw [State.writeLoadedOne]
      split
      · rfl
      · next hd =>
        refine State.reg_setReg_ne _ _ ?_
        rcases h with rfl | h
        · exact Ne.symm hd
        · exact Ne.symm (h d List.mem_cons_self)
    · exact h.imp id fun h e he => h e (List.mem_cons_of_mem _ he)

/-! ### Modes (R36) -/

theorem Mode.ofBits_bits (m : Mode) : Mode.ofBits m.bits = some m := by cases m <;> rfl

theorem Mode.bits_of_ofBits {b : BitVec 5} {m : Mode} (h : Mode.ofBits b = some m) : m.bits = b := by
  revert b m; decide

theorem Mode.ofBits_eq_none_iff (b : BitVec 5) : Mode.ofBits b = none ↔ ∀ m : Mode, m.bits ≠ b := by
  constructor
  · rintro h m rfl; rw [Mode.ofBits_bits] at h; cases h
  · intro h
    cases k : Mode.ofBits b with
    | none => rfl
    | some m => exact absurd (Mode.bits_of_ofBits k) (h m)

@[simp] theorem State.switchModeTo_same (s : State) : s.switchModeTo s.mode = s := by simp [State.switchModeTo]

@[simp] theorem State.switchModeTo_mode (s : State) (m : Mode) : (s.switchModeTo m).mode = m := by
  unfold State.switchModeTo
  split
  · next h => exact h.symm
  · rfl

/-- A mode switch changes registers, banks, the saved status and the mode alone. -/
theorem State.switchModeTo_eq (s : State) (m : Mode) :
    s.switchModeTo m =
      { s with x := (s.switchModeTo m).x, spsr := (s.switchModeTo m).spsr, shadow := (s.switchModeTo m).shadow
               shadow8_12 := (s.switchModeTo m).shadow8_12, mode := m } := by
  unfold State.switchModeTo
  split
  · next h => subst h; rfl
  · simp only
    repeat' split
    all_goals rfl

/-- What `SwitchMode` answers: the switch to the mode of that number, or nothing. -/
theorem State.switchMode_eq (s : State) (b : BitVec 5) : s.switchMode b = (Mode.ofBits b).map s.switchModeTo := by
  unfold State.switchMode
  split
  · next h => subst h; simp [Mode.ofBits_bits]
  · rfl

/-- `UnpackStatus` (R39). -/
theorem State.unpackStatus_eq (s : State) (w : Word) :
    s.unpackStatus w =
      (Mode.ofBits (w.extractLsb' 0 5)).map fun m =>
        { s.switchModeTo m with
          t := w.getLsbD 5, f := w.getLsbD 6, i := w.getLsbD 7
          v := w.getLsbD 28, c := w.getLsbD 29, z := w.getLsbD 30, n := w.getLsbD 31 } := by
  unfold State.unpackStatus
  rw [State.switchMode_eq, Option.map_map]
  rfl

/-! ### Exceptions (R442, R446, R447) -/

/-- Taking an exception changes registers, banks, the saved status, the mode, T and I alone. -/
theorem State.takeException_eq (s : State) (m : Mode) (ret target : Word) :
    s.takeException m ret target =
      { s with x := (s.takeException m ret target).x, spsr := s.packStatus
               shadow := (s.switchModeTo m).shadow, shadow8_12 := (s.switchModeTo m).shadow8_12
               mode := m, t := false, i := true } := by
  unfold State.takeException
  rw [State.switchModeTo_eq]
  rfl

/-- The registers after taking an exception. -/
theorem State.reg_takeException (s : State) (m : Mode) (ret target : Word) (q : Reg) :
    (s.takeException m ret target).reg q =
      if q = Reg.pc then target else if q = Reg.lr then ret else (s.switchModeTo m).reg q := by
  unfold State.takeException
  rw [State.setPc_eq, State.reg_setReg, State.reg_setReg]
  rfl

/-- What a return from an exception can answer. -/
theorem State.returnFromException_cases (s : State) (target : Word) :
    (s.mode.hasSpsr = false ∧ s.returnFromException target = .fault (.invariantViolation .noSpsr s)) ∨
    (s.mode.hasSpsr = true ∧ Mode.ofBits (s.spsr.extractLsb' 0 5) = none ∧
      s.returnFromException target = .fault (.invariantViolation .badMode s)) ∨
    (∃ t, s.mode.hasSpsr = true ∧ s.unpackStatus s.spsr = some t ∧
      s.returnFromException target = .next (t.setPc target)) := by
  unfold State.returnFromException
  cases hm : s.mode.hasSpsr
  · exact .inl ⟨rfl, rfl⟩
  · cases hu : s.unpackStatus s.spsr with
    | none =>
      refine .inr (.inl ⟨rfl, ?_, rfl⟩)
      rw [State.unpackStatus_eq] at hu
      exact Option.map_eq_none_iff.1 hu
    | some t => exact .inr (.inr ⟨t, rfl, rfl, rfl⟩)

/-! ### The step around the operation -/

/-- A fetch changes the half of the cache that T selects, and nothing else. -/
theorem State.fetch_eq (s : State) :
    s.fetch.2 = { s with icacheArm := s.fetch.2.icacheArm, icacheThumb := s.fetch.2.icacheThumb } := by
  unfold State.fetch State.fillCache
  cases s.cachedOp with
  | some op => rfl
  | none => simp only; split <;> rfl

/-- The operation a fetch yields when the cache is coherent at the key: what memory decodes to now (R86). -/
theorem State.fetch_op (s : State) (h : ∀ op, s.cachedOp = some op → op = s.decodedAtFetch) :
    s.fetch.1 = s.decodedAtFetch := by
  unfold State.fetch
  cases k : s.cachedOp with
  | some op => exact h op k
  | none => rfl

theorem State.finish_false (s : State) : s.finish false = s := rfl

theorem State.finish_failed {s : State} (h : s.condPassed = false) : s.finish true = { s with fetchNonSeq := true } := by
  simp [State.finish, State.writePcPath, State.updateTimers, h]

theorem State.finish_passed {s : State} (h : s.condPassed = true) :
    s.finish true = (s.refillCost (alignHalf s.pc)).setPc (alignHalf s.pc + s.width) := by
  simp [State.finish, State.writePcPath, State.updateTimers, h]

/-- The write-PC path changes register 15 and timing alone. -/
theorem State.finish_eq (s : State) (b : Bool) :
    s.finish b = { s with x := (s.finish b).x, cycles := (s.finish b).cycles, fetchNonSeq := (s.finish b).fetchNonSeq } := by
  unfold State.finish State.updateTimers State.writePcPath
  repeat' split
  all_goals rfl

/-- What a step can answer: an `Illegal` operation's fault, or the operation's own answer followed by the write-PC path. -/
theorem step_cases (s : State) :
    (∃ w, s.fetch.1.kind = .illegal w ∧ step s = .fault (.illegalInstruction w s.fetch.2.advance)) ∨
    (∃ i, s.fetch.1.kind = .instr i ∧
      step s = Result.andThen (exec i s.fetch.2.advance) fun t => .next (t.finish s.fetch.1.writesPC)) := by
  cases h : s.fetch.1.kind with
  | illegal w => exact .inl ⟨w, rfl, by simp only [step, h]⟩
  | instr i => exact .inr ⟨i, rfl, by simp only [step, h]⟩

/-! ### After a fault -/

@[simp] theorem Fault.left_illegalInstruction (w : Word) (l : State) : (Fault.illegalInstruction w l).left = l := rfl

@[simp] theorem Fault.left_invariantViolation (k : InvariantKind) (l : State) :
    (Fault.invariantViolation k l).left = l := rfl

@[simp] theorem Fault.left_withLeft (f : Fault) (l : State) : (f.withLeft l).left = l := by cases f <;> rfl

@[simp] theorem Result.react_next (s : State) (e : Event) : Result.react (.next s) e = Sys2Proof.Machine.react e s := rfl

@[simp] theorem Result.react_fault (f : Fault) (e : Event) : Result.react (.fault f) e = reactFaulted e f := rfl

/-- A refused run stays refused, whatever follows (U27). -/
@[simp] theorem Result.reactAll_refused (c : Refusal) (events : List Event) :
    Result.reactAll (.refused c) events = .refused c := by
  induction events with
  | nil => rfl
  | cons e rest ih => exact ih

@[simp] theorem Result.react_refused (c : Refusal) (e : Event) : Result.react (.refused c) e = .refused c := rfl

/-- What makes a faulted machine live again: a reset or a persist load, over the state left behind. -/
theorem reactFaulted_eq_next {e : Event} {f : Fault} {t : State} (h : reactFaulted e f = .next t) :
    (∃ entry, e = .reset entry ∧ f.left.resetTo entry = .next t) ∨ ∃ p, e = .load p ∧ f.left.loadPersisted p = .next t := by
  cases e with
  | reset entry => exact .inl ⟨entry, rfl, h⟩
  | load p => exact .inr ⟨p, rfl, h⟩
  | step | raiseInterrupt | externalWrite | invalidate | advanceCycles => nomatch h

/-- What an event that leaves a machine faulted does: it acts on the state left behind. -/
theorem reactFaulted_eq_fault {e : Event} {f f' : Fault} (h : reactFaulted e f = .fault f') :
    (∃ a bytes, f' = f.withLeft (f.left.externalWrite a bytes)) ∨
    (∃ a n, f' = f.withLeft (f.left.invalidate a n)) ∨ ∃ k, f' = f.withLeft (f.left.advanceCycles k) := by
  cases e with
  | step | raiseInterrupt => nomatch h
  | externalWrite a bytes => cases h; exact .inl ⟨a, bytes, rfl⟩
  | invalidate a n => cases h; exact .inr (.inl ⟨a, n, rfl⟩)
  | advanceCycles k => cases h; exact .inr (.inr ⟨k, rfl⟩)
  | reset entry =>
    simp only [reactFaulted, State.resetTo] at h
    split at h <;> cases h
  | load p =>
    simp only [reactFaulted, State.loadPersisted] at h
    repeat' split at h
    all_goals cases h

/-- What `reset` answers. -/
theorem State.resetTo_eq_next {s t : State} {entry : Word} (h : s.resetTo entry = .next t) :
    entry.extractLsb' 0 2 = 0#2 ∧ t = State.resetAt entry s.mem s.log := by
  unfold State.resetTo at h
  split at h
  · next k => cases h; exact ⟨k, rfl⟩
  · cases h

/-- Events after events. -/
theorem Result.reactAll_append (r : Result) (before after : List Event) :
    Result.reactAll r (before ++ after) = Result.reactAll (Result.reactAll r before) after := by
  induction before generalizing r with
  | nil => rfl
  | cons e rest ih => exact ih _

end Sys2Proof.Machine
end

