-- ==== Sys2Proof/Laws/Claims.lean ====
section
/-!
SUPPORT. Lemmas that tie the model's operations to the vocabulary of the statements (namespace Sys2Proof.Claims): which
instructions begin with the prologue, what a passed prologue charges, data processing in exact arithmetic, and the
registers and slots of a register list.
-/

namespace Sys2Proof.Claims

open Sys2Proof.Machine

/-! ### Conditions and the prologue -/

/-- A passed condition runs the body after the fetch cost (R156). -/
theorem prologue_of_holds {s : State} {c : Cond} (h : Holds s c) (body : State → Result) :
    s.prologue c body = body s.fetchCost := by
  refine State.prologue_passed ?_ body
  cases c <;> simp_all [State.conditionPassed, Holds, condition15Passed, Config.cond15]

/-- A failed condition charges the fetch and clears `condPassed` (R156). -/
theorem prologue_of_not_holds {s : State} {c : Cond} (h : ¬ Holds s c) (body : State → Result) :
    s.prologue c body = .next { s.fetchCost with condPassed := false } := by
  refine State.prologue_failed ?_ body
  cases c <;> simp_all [State.conditionPassed, Holds]

/-- Every instruction that carries a condition is the prologue of its condition and a body. -/
theorem exec_prologue {i : Instr} {c : Cond} (h : condition i = some c) :
    ∃ body, ∀ s, exec i s = s.prologue c body := by
  cases i
  case andImm f => cases h; exact ⟨_, fun s => by show execAndImm f s = _; unfold execAndImm dataProcessing; rfl⟩
  case andRegImm f => cases h; exact ⟨_, fun s => by show execAndRegImm f s = _; unfold execAndRegImm dataProcessing; rfl⟩
  case andRegReg f => cases h; exact ⟨_, fun s => by show execAndRegReg f s = _; unfold execAndRegReg dataProcessing; rfl⟩
  case eorImm f => cases h; exact ⟨_, fun s => by show execEorImm f s = _; unfold execEorImm dataProcessing; rfl⟩
  case eorRegImm f => cases h; exact ⟨_, fun s => by show execEorRegImm f s = _; unfold execEorRegImm dataProcessing; rfl⟩
  case eorRegReg f => cases h; exact ⟨_, fun s => by show execEorRegReg f s = _; unfold execEorRegReg dataProcessing; rfl⟩
  case subImm f => cases h; exact ⟨_, fun s => by show execSubImm f s = _; unfold execSubImm dataProcessing; rfl⟩
  case subRegImm f => cases h; exact ⟨_, fun s => by show execSubRegImm f s = _; unfold execSubRegImm dataProcessing; rfl⟩
  case subRegReg f => cases h; exact ⟨_, fun s => by show execSubRegReg f s = _; unfold execSubRegReg dataProcessing; rfl⟩
  case rsbImm f => cases h; exact ⟨_, fun s => by show execRsbImm f s = _; unfold execRsbImm dataProcessing; rfl⟩
  case rsbRegImm f => cases h; exact ⟨_, fun s => by show execRsbRegImm f s = _; unfold execRsbRegImm dataProcessing; rfl⟩
  case rsbRegReg f => cases h; exact ⟨_, fun s => by show execRsbRegReg f s = _; unfold execRsbRegReg dataProcessing; rfl⟩
  case addImm f => cases h; exact ⟨_, fun s => by show execAddImm f s = _; unfold execAddImm dataProcessing; rfl⟩
  case addRegImm f => cases h; exact ⟨_, fun s => by show execAddRegImm f s = _; unfold execAddRegImm dataProcessing; rfl⟩
  case addRegReg f => cases h; exact ⟨_, fun s => by show execAddRegReg f s = _; unfold execAddRegReg dataProcessing; rfl⟩
  case adcImm f => cases h; exact ⟨_, fun s => by show execAdcImm f s = _; unfold execAdcImm dataProcessing; rfl⟩
  case adcRegImm f => cases h; exact ⟨_, fun s => by show execAdcRegImm f s = _; unfold execAdcRegImm dataProcessing; rfl⟩
  case adcRegReg f => cases h; exact ⟨_, fun s => by show execAdcRegReg f s = _; unfold execAdcRegReg dataProcessing; rfl⟩
  case sbcImm f => cases h; exact ⟨_, fun s => by show execSbcImm f s = _; unfold execSbcImm dataProcessing; rfl⟩
  case sbcRegImm f => cases h; exact ⟨_, fun s => by show execSbcRegImm f s = _; unfold execSbcRegImm dataProcessing; rfl⟩
  case sbcRegReg f => cases h; exact ⟨_, fun s => by show execSbcRegReg f s = _; unfold execSbcRegReg dataProcessing; rfl⟩
  case rscImm f => cases h; exact ⟨_, fun s => by show execRscImm f s = _; unfold execRscImm dataProcessing; rfl⟩
  case rscRegImm f => cases h; exact ⟨_, fun s => by show execRscRegImm f s = _; unfold execRscRegImm dataProcessing; rfl⟩
  case rscRegReg f => cases h; exact ⟨_, fun s => by show execRscRegReg f s = _; unfold execRscRegReg dataProcessing; rfl⟩
  case tstImm f => cases h; exact ⟨_, fun s => by show execTstImm f s = _; unfold execTstImm dataProcessing; rfl⟩
  case tstRegImm f => cases h; exact ⟨_, fun s => by show execTstRegImm f s = _; unfold execTstRegImm dataProcessing; rfl⟩
  case tstRegReg f => cases h; exact ⟨_, fun s => by show execTstRegReg f s = _; unfold execTstRegReg dataProcessing; rfl⟩
  case teqImm f => cases h; exact ⟨_, fun s => by show execTeqImm f s = _; unfold execTeqImm dataProcessing; rfl⟩
  case teqRegImm f => cases h; exact ⟨_, fun s => by show execTeqRegImm f s = _; unfold execTeqRegImm dataProcessing; rfl⟩
  case teqRegReg f => cases h; exact ⟨_, fun s => by show execTeqRegReg f s = _; unfold execTeqRegReg dataProcessing; rfl⟩
  case cmpImm f => cases h; exact ⟨_, fun s => by show execCmpImm f s = _; unfold execCmpImm dataProcessing; rfl⟩
  case cmpRegImm f => cases h; exact ⟨_, fun s => by show execCmpRegImm f s = _; unfold execCmpRegImm dataProcessing; rfl⟩
  case cmpRegReg f => cases h; exact ⟨_, fun s => by show execCmpRegReg f s = _; unfold execCmpRegReg dataProcessing; rfl⟩
  case cmnImm f => cases h; exact ⟨_, fun s => by show execCmnImm f s = _; unfold execCmnImm dataProcessing; rfl⟩
  case cmnRegImm f => cases h; exact ⟨_, fun s => by show execCmnRegImm f s = _; unfold execCmnRegImm dataProcessing; rfl⟩
  case cmnRegReg f => cases h; exact ⟨_, fun s => by show execCmnRegReg f s = _; unfold execCmnRegReg dataProcessing; rfl⟩
  case orrImm f => cases h; exact ⟨_, fun s => by show execOrrImm f s = _; unfold execOrrImm dataProcessing; rfl⟩
  case orrRegImm f => cases h; exact ⟨_, fun s => by show execOrrRegImm f s = _; unfold execOrrRegImm dataProcessing; rfl⟩
  case orrRegReg f => cases h; exact ⟨_, fun s => by show execOrrRegReg f s = _; unfold execOrrRegReg dataProcessing; rfl⟩
  case movImm f => cases h; exact ⟨_, fun s => by show execMovImm f s = _; unfold execMovImm dataProcessing; rfl⟩
  case movRegImm f => cases h; exact ⟨_, fun s => by show execMovRegImm f s = _; unfold execMovRegImm dataProcessing; rfl⟩
  case movRegReg f => cases h; exact ⟨_, fun s => by show execMovRegReg f s = _; unfold execMovRegReg dataProcessing; rfl⟩
  case bicImm f => cases h; exact ⟨_, fun s => by show execBicImm f s = _; unfold execBicImm dataProcessing; rfl⟩
  case bicRegImm f => cases h; exact ⟨_, fun s => by show execBicRegImm f s = _; unfold execBicRegImm dataProcessing; rfl⟩
  case bicRegReg f => cases h; exact ⟨_, fun s => by show execBicRegReg f s = _; unfold execBicRegReg dataProcessing; rfl⟩
  case mvnImm f => cases h; exact ⟨_, fun s => by show execMvnImm f s = _; unfold execMvnImm dataProcessing; rfl⟩
  case mvnRegImm f => cases h; exact ⟨_, fun s => by show execMvnRegImm f s = _; unfold execMvnRegImm dataProcessing; rfl⟩
  case mvnRegReg f => cases h; exact ⟨_, fun s => by show execMvnRegReg f s = _; unfold execMvnRegReg dataProcessing; rfl⟩
  case mrs f => cases h; exact ⟨_, fun s => by show execMrs f s = _; unfold execMrs; rfl⟩
  case msrReg f => cases h; exact ⟨_, fun s => by show execMsrReg f s = _; unfold execMsrReg; rfl⟩
  case msrImm f => cases h; exact ⟨_, fun s => by show execMsrImm f s = _; unfold execMsrImm; rfl⟩
  case mul f => cases h; exact ⟨_, fun s => by show execMul f s = _; unfold execMul multiply; rfl⟩
  case mla f => cases h; exact ⟨_, fun s => by show execMla f s = _; unfold execMla multiply; rfl⟩
  case umull f => cases h; exact ⟨_, fun s => by show execUmull f s = _; unfold execUmull multiplyLong; rfl⟩
  case umlal f => cases h; exact ⟨_, fun s => by show execUmlal f s = _; unfold execUmlal multiplyLong; rfl⟩
  case smull f => cases h; exact ⟨_, fun s => by show execSmull f s = _; unfold execSmull multiplyLong; rfl⟩
  case smlal f => cases h; exact ⟨_, fun s => by show execSmlal f s = _; unfold execSmlal multiplyLong; rfl⟩
  case swp f => cases h; exact ⟨_, fun s => by show execSwp f s = _; unfold execSwp; rfl⟩
  case swpb f => cases h; exact ⟨_, fun s => by show execSwpb f s = _; unfold execSwpb; rfl⟩
  case bx f => cases h; exact ⟨_, fun s => by show execBx f s = _; unfold execBx; rfl⟩
  case strhReg f => cases h; exact ⟨_, fun s => by show execStrhReg f s = _; unfold execStrhReg; rfl⟩
  case strhImm f => cases h; exact ⟨_, fun s => by show execStrhImm f s = _; unfold execStrhImm; rfl⟩
  case ldrhReg f => cases h; exact ⟨_, fun s => by show execLdrhReg f s = _; unfold execLdrhReg; rfl⟩
  case ldrhImm f => cases h; exact ⟨_, fun s => by show execLdrhImm f s = _; unfold execLdrhImm; rfl⟩
  case ldrsbReg f => cases h; exact ⟨_, fun s => by show execLdrsbReg f s = _; unfold execLdrsbReg; rfl⟩
  case ldrsbImm f => cases h; exact ⟨_, fun s => by show execLdrsbImm f s = _; unfold execLdrsbImm; rfl⟩
  case ldrshReg f => cases h; exact ⟨_, fun s => by show execLdrshReg f s = _; unfold execLdrshReg; rfl⟩
  case ldrshImm f => cases h; exact ⟨_, fun s => by show execLdrshImm f s = _; unfold execLdrshImm; rfl⟩
  case ldrImmPre f => cases h; exact ⟨_, fun s => by show execLdrImmPre f s = _; unfold execLdrImmPre; rfl⟩
  case ldrImmPost f => cases h; exact ⟨_, fun s => by show execLdrImmPost f s = _; unfold execLdrImmPost; rfl⟩
  case ldrtImm f => cases h; exact ⟨_, fun s => by show execLdrtImm f s = _; unfold execLdrtImm; rfl⟩
  case ldrRegPre f => cases h; exact ⟨_, fun s => by show execLdrRegPre f s = _; unfold execLdrRegPre; rfl⟩
  case ldrRegPost f => cases h; exact ⟨_, fun s => by show execLdrRegPost f s = _; unfold execLdrRegPost; rfl⟩
  case ldrtReg f => cases h; exact ⟨_, fun s => by show execLdrtReg f s = _; unfold execLdrtReg; rfl⟩
  case strImmPre f => cases h; exact ⟨_, fun s => by show execStrImmPre f s = _; unfold execStrImmPre; rfl⟩
  case strImmPost f => cases h; exact ⟨_, fun s => by show execStrImmPost f s = _; unfold execStrImmPost; rfl⟩
  case strtImm f => cases h; exact ⟨_, fun s => by show execStrtImm f s = _; unfold execStrtImm; rfl⟩
  case strRegPre f => cases h; exact ⟨_, fun s => by show execStrRegPre f s = _; unfold execStrRegPre; rfl⟩
  case strRegPost f => cases h; exact ⟨_, fun s => by show execStrRegPost f s = _; unfold execStrRegPost; rfl⟩
  case strtReg f => cases h; exact ⟨_, fun s => by show execStrtReg f s = _; unfold execStrtReg; rfl⟩
  case ldrbImmPre f => cases h; exact ⟨_, fun s => by show execLdrbImmPre f s = _; unfold execLdrbImmPre; rfl⟩
  case ldrbImmPost f => cases h; exact ⟨_, fun s => by show execLdrbImmPost f s = _; unfold execLdrbImmPost; rfl⟩
  case ldrbtImm f => cases h; exact ⟨_, fun s => by show execLdrbtImm f s = _; unfold execLdrbtImm; rfl⟩
  case ldrbRegPre f => cases h; exact ⟨_, fun s => by show execLdrbRegPre f s = _; unfold execLdrbRegPre; rfl⟩
  case ldrbRegPost f => cases h; exact ⟨_, fun s => by show execLdrbRegPost f s = _; unfold execLdrbRegPost; rfl⟩
  case ldrbtReg f => cases h; exact ⟨_, fun s => by show execLdrbtReg f s = _; unfold execLdrbtReg; rfl⟩
  case strbImmPre f => cases h; exact ⟨_, fun s => by show execStrbImmPre f s = _; unfold execStrbImmPre; rfl⟩
  case strbImmPost f => cases h; exact ⟨_, fun s => by show execStrbImmPost f s = _; unfold execStrbImmPost; rfl⟩
  case strbtImm f => cases h; exact ⟨_, fun s => by show execStrbtImm f s = _; unfold execStrbtImm; rfl⟩
  case strbRegPre f => cases h; exact ⟨_, fun s => by show execStrbRegPre f s = _; unfold execStrbRegPre; rfl⟩
  case strbRegPost f => cases h; exact ⟨_, fun s => by show execStrbRegPost f s = _; unfold execStrbRegPost; rfl⟩
  case strbtReg f => cases h; exact ⟨_, fun s => by show execStrbtReg f s = _; unfold execStrbtReg; rfl⟩
  case ldm f => cases h; exact ⟨_, fun s => by show execLdm f s = _; unfold execLdm; rfl⟩
  case stm f => cases h; exact ⟨_, fun s => by show execStm f s = _; unfold execStm; rfl⟩
  case b f => cases h; exact ⟨_, fun s => by show execB f s = _; unfold execB; rfl⟩
  case bl f => cases h; exact ⟨_, fun s => by show execBl f s = _; unfold execBl; rfl⟩
  case stc f => cases h; exact ⟨_, fun s => by show execStc f s = _; unfold execStc; rfl⟩
  case ldc f => cases h; exact ⟨_, fun s => by show execLdc f s = _; unfold execLdc; rfl⟩
  case cdp f => cases h; exact ⟨_, fun s => by show execCdp f s = _; unfold execCdp; rfl⟩
  case mcr f => cases h; exact ⟨_, fun s => by show execMcr f s = _; unfold execMcr; rfl⟩
  case mrc f => cases h; exact ⟨_, fun s => by show execMrc f s = _; unfold execMrc; rfl⟩
  case swi f => cases h; exact ⟨_, fun s => by show execSwi f s = _; unfold execSwi; rfl⟩
  case tLslImm => cases h
  case tLsrImm => cases h
  case tAsrImm => cases h
  case tAddReg => cases h
  case tSubReg => cases h
  case tAddImm3 => cases h
  case tSubImm3 => cases h
  case tMovImm8 => cases h
  case tCmpImm8 => cases h
  case tAddImm8 => cases h
  case tSubImm8 => cases h
  case tAnd => cases h
  case tEor => cases h
  case tLslReg => cases h
  case tLsrReg => cases h
  case tAsrReg => cases h
  case tAdc => cases h
  case tSbc => cases h
  case tRor => cases h
  case tTst => cases h
  case tNeg => cases h
  case tCmpReg => cases h
  case tCmn => cases h
  case tOrr => cases h
  case tMul => cases h
  case tBic => cases h
  case tMvn => cases h
  case tAddHi => cases h
  case tCmpHi => cases h
  case tMovHi => cases h
  case tBx => cases h
  case tLdrPc => cases h
  case tStrReg => cases h
  case tStrbReg => cases h
  case tLdrReg => cases h
  case tLdrbReg => cases h
  case tStrhReg => cases h
  case tLdsb => cases h
  case tLdrhReg => cases h
  case tLdsh => cases h
  case tStrImm => cases h
  case tLdrImm => cases h
  case tStrbImm => cases h
  case tLdrbImm => cases h
  case tStrhImm => cases h
  case tLdrhImm => cases h
  case tStrSp => cases h
  case tLdrSp => cases h
  case tAddPc => cases h
  case tAddSp => cases h
  case tAddSpImm7 => cases h
  case tSubSpImm7 => cases h
  case tPush => cases h
  case tPop => cases h
  case tStmia => cases h
  case tLdmia => cases h
  case tBeq f => cases h; exact ⟨_, fun s => by show execTBeq f s = _; unfold execTBeq; rfl⟩
  case tBne f => cases h; exact ⟨_, fun s => by show execTBne f s = _; unfold execTBne; rfl⟩
  case tBcs f => cases h; exact ⟨_, fun s => by show execTBcs f s = _; unfold execTBcs; rfl⟩
  case tBcc f => cases h; exact ⟨_, fun s => by show execTBcc f s = _; unfold execTBcc; rfl⟩
  case tBmi f => cases h; exact ⟨_, fun s => by show execTBmi f s = _; unfold execTBmi; rfl⟩
  case tBpl f => cases h; exact ⟨_, fun s => by show execTBpl f s = _; unfold execTBpl; rfl⟩
  case tBvs f => cases h; exact ⟨_, fun s => by show execTBvs f s = _; unfold execTBvs; rfl⟩
  case tBvc f => cases h; exact ⟨_, fun s => by show execTBvc f s = _; unfold execTBvc; rfl⟩
  case tBhi f => cases h; exact ⟨_, fun s => by show execTBhi f s = _; unfold execTBhi; rfl⟩
  case tBls f => cases h; exact ⟨_, fun s => by show execTBls f s = _; unfold execTBls; rfl⟩
  case tBge f => cases h; exact ⟨_, fun s => by show execTBge f s = _; unfold execTBge; rfl⟩
  case tBlt f => cases h; exact ⟨_, fun s => by show execTBlt f s = _; unfold execTBlt; rfl⟩
  case tBgt f => cases h; exact ⟨_, fun s => by show execTBgt f s = _; unfold execTBgt; rfl⟩
  case tBle f => cases h; exact ⟨_, fun s => by show execTBle f s = _; unfold execTBle; rfl⟩
  case tSwi => cases h
  case tB => cases h
  case tBlHi => cases h
  case tBlLo => cases h

/-! ### Timing -/

/-- The fetch cost charges `fetchCharge` (R500). -/
theorem fetchCost_cycles (s : State) : s.fetchCost.cycles = s.cycles + fetchCharge s := by
  simp only [State.fetchCost, fetchCharge, State.currentAddress, State.width]
  cases s.t <;> cases s.fetchNonSeq <;> rfl

theorem charged_fetchCost (s : State) : Charged s s.fetchCost 0 false := ⟨fetchCost_cycles s, rfl, rfl⟩

theorem charged_internalCycles (s : State) (k : Nat) : Charged s (s.fetchCost.internalCycles k) k false :=
  ⟨by show s.fetchCost.cycles + _ = _; rw [fetchCost_cycles], rfl, rfl⟩

theorem dataCost_cycles (s : State) (w : Width) (a : Word) :
    (s.dataCost w false a).cycles = s.cycles + dataCharge w a := by cases w <;> rfl

/-- The cost of a block transfer (R503, R505). -/
theorem blockCost_cycles (s : State) (n : Nat) (a : Word) :
    (s.blockCost (n + 1) a false).cycles = s.cycles + blockCharge a (n + 1) := by
  have step : ∀ (a : Word) (k : Nat), a + 4#32 + BitVec.ofNat 32 (4 * k) = a + BitVec.ofNat 32 (4 * (k + 1)) := by
    intro a k; apply BitVec.eq_of_toNat_eq; simp only [BitVec.toNat_add, BitVec.toNat_ofNat]; omega
  have seq : ∀ (n : Nat) (a : Word) (s : State), (s.blockCost n a true).cycles =
      s.cycles + ((List.range n).map fun k => Config.waitS32 (alignWord (a + BitVec.ofNat 32 (4 * k)))).sum := by
    intro n
    induction n with
    | zero => intro a s; rfl
    | succ n ih =>
      intro a s
      have e0 : a + BitVec.ofNat 32 (4 * 0) = a := by simp
      rw [State.blockCost, ih, List.range_succ_eq_map, List.map_cons, List.sum_cons, List.map_map]
      simp only [step, e0, Function.comp_def]
      show (s.cycles + Config.waitS32 (alignWord a)) + _ = _
      rw [Nat.add_assoc]
  rw [State.blockCost, seq]
  simp only [step]
  show (s.cycles + Config.waitN32 (alignWord a)) + _ = _
  rw [Nat.add_assoc]
  rfl

/-! ### Data processing -/

/-- Every row of `DpRow` runs the common operation of R211. -/
theorem exec_dpRow {i : Instr} {op : DpOp} {c : Cond} {set : Bool} {rn rd : Reg} {form : Operand2} (s : State)
    (h : DpRow i op c set rn rd form) : exec i s = dataProcessing op c set rn rd form s := by
  cases h <;> cases op <;> rfl

theorem readReg_eq_firstOperand (form : Operand2) (s : State) (rn : Reg) :
    form.readReg s rn = firstOperand form s rn := by
  cases form <;> simp [Operand2.readReg, firstOperand, Operand2.isRegShift]

theorem dpIsTest_eq (op : DpOp) : dpIsTest op = isTest op := by cases op <;> rfl

theorem dpIsArithmetic_eq (op : DpOp) : dpIsArithmetic op = arithmetic op := by cases op <;> rfl

theorem toInt_complement (a : Word) : (~~~a).toInt = -1 - a.toInt := by
  rw [BitVec.toInt_not]
  rw [BitVec.toInt_eq_toNat_bmod] at *
  simp only [Int.bmod_def] at *
  have := a.isLt
  split <;> omega

/-- The computed value is the exact one, truncated (R215 to R230). -/
theorem dpCompute_value (op : DpOp) (a b : Word) (c : Bool) : (dpCompute op a b c).value = dpResult op a b c := by
  have sum : ∀ a b c, (addWithCarry a b c).value = BitVec.ofNat 32 (a.toNat + b.toNat + c.toNat) := fun _ _ _ => rfl
  have not : ∀ a : Word, (~~~a).toNat = 2 ^ 32 - 1 - a.toNat := fun a => by simp
  cases op <;> simp only [dpCompute, dpResult, logicalResult, sum, exact]
  all_goals
    apply BitVec.eq_of_toNat_eq
    simp only [BitVec.toNat_ofNat, BitVec.toNat_ofInt, not]
    have := a.isLt
    have := b.isLt
    cases c <;> simp only [Bool.toNat_true, Bool.toNat_false] <;> omega

/-! ### Register lists -/

theorem listSize_eq (l : BitVec 16) : listSize l = registerCount l := by
  unfold listSize registerCount registersOf
  rw [List.length_map]

/-- A list has its registers in ascending order, and a register stands at its rank (R300, R301). -/
theorem registersOf_split (l : BitVec 16) (r : Reg) (h : InList l r) :
    ∃ before after : List Reg, registersOf l = before ++ r :: after ∧ before.length = rank l r ∧
      (∀ q ∈ before, q.toNat < r.toNat ∧ InList l q) ∧ (∀ q ∈ after, r.toNat < q.toNat ∧ InList l q) := by
  have e : ∀ i : Fin 16, List.range 16 = List.range i.val ++ i.val :: List.range' (i.val + 1) (15 - i.val) := by decide
  have e := e ⟨r.toNat, r.isLt⟩
  refine ⟨((List.range r.toNat).filter fun k => l.getLsbD k).map (BitVec.ofNat 4),
    ((List.range' (r.toNat + 1) (15 - r.toNat)).filter fun k => l.getLsbD k).map (BitVec.ofNat 4), ?_, ?_, ?_, ?_⟩
  · unfold registersOf
    rw [e, List.filter_append, List.filter_cons_of_pos (by exact h), List.map_append, List.map_cons, BitVec.ofNat_toNat]
    simp
  · rw [List.length_map, rank]
  · intro q hq
    simp only [List.mem_map, List.mem_filter, List.mem_range] at hq
    obtain ⟨k, ⟨h1, h2⟩, rfl⟩ := hq
    have hk : (BitVec.ofNat 4 k).toNat = k := by have := r.isLt; simp; omega
    unfold InList
    rw [hk]
    exact ⟨h1, h2⟩
  · intro q hq
    simp only [List.mem_map, List.mem_filter, List.mem_range'_1] at hq
    obtain ⟨k, ⟨h1, h2⟩, rfl⟩ := hq
    have hk : (BitVec.ofNat 4 k).toNat = k := by simp; omega
    unfold InList
    rw [hk]
    exact ⟨by omega, h2⟩

theorem mem_registersOf (l : BitVec 16) (r : Reg) : r ∈ registersOf l ↔ InList l r := by
  constructor
  · intro h
    unfold registersOf at h
    simp only [List.mem_map, List.mem_filter, List.mem_range] at h
    obtain ⟨k, ⟨h1, h2⟩, rfl⟩ := h
    have hk : (BitVec.ofNat 4 k).toNat = k := by simp; omega
    unfold InList
    rw [hk]
    exact h2
  · intro h
    obtain ⟨before, after, e, -⟩ := registersOf_split l r h
    rw [e]
    simp

/-- A word read at an aligned address is not rotated (R69). -/
theorem memRead_alignWord (s : State) (a : Word) : s.memRead .word (alignWord a) = s.wordAt (alignWord a) := by
  have two : alignWord (alignWord a) = alignWord a := by unfold alignWord; rw [BitVec.and_assoc]; rfl
  have low : (alignWord a).extractLsb' 0 2 = 0#2 := by
    unfold alignWord
    apply BitVec.eq_of_getLsbD_eq
    intro k hk
    obtain rfl | rfl : k = 0 ∨ k = 1 := by omega
    all_goals simp
  show s.load32 _ = _
  unfold State.load32
  rw [two, low]
  refine BitVec.eq_of_toNat_eq ?_
  simp only [BitVec.toNat_rotateRight, BitVec.toNat_ofNat]
  simp [Nat.shiftLeft_eq]

theorem blockData_append (s : State) (before after : List Reg) (a : Word) :
    s.blockData a (before ++ after) =
      s.blockData a before ++ s.blockData (a + BitVec.ofNat 32 (4 * before.length)) after := by
  induction before generalizing a with
  | nil => simp [State.blockData]
  | cons r rest ih =>
    rw [List.cons_append, State.blockData, ih, State.blockData, List.cons_append, List.length_cons]
    congr 3
    apply BitVec.eq_of_toNat_eq
    simp only [BitVec.toNat_add, BitVec.toNat_ofNat]
    omega

/-- A block load reads a listed register from its slot, once (R300 to R302). -/
theorem blockData_split (s : State) (l : BitVec 16) (r : Reg) (h : InList l r) (start : Word) :
    ∃ before after : List (Reg × Word),
      s.blockData start (registersOf l) = before ++ (r, s.wordAt (slot start l r)) :: after ∧
      (∀ d ∈ before, d.1 ≠ r) ∧ (∀ d ∈ after, d.1 ≠ r) := by
  obtain ⟨before, after, e, hl, h1, h2⟩ := registersOf_split l r h
  rw [e, blockData_append, State.blockData, memRead_alignWord, hl]
  refine ⟨_, _, rfl, ?_, ?_⟩
  · intro d hd e
    have m : d.1 ∈ before := by rw [← State.blockData_fst s start before]; exact List.mem_map_of_mem hd
    have := (h1 _ m).1
    rw [e] at this
    omega
  · intro d hd e
    have m : d.1 ∈ after := by
      rw [← State.blockData_fst s (start + BitVec.ofNat 32 (4 * rank l r) + 4#32) after]
      exact List.mem_map_of_mem hd
    have := (h2 _ m).1
    rw [e] at this
    omega

end Sys2Proof.Claims
end

