-- ==== Sys2Proof/Laws/PerInstr.lean ====
section
/-!
SUPPORT. Statements made per instruction, one lemma per constructor of `Instr`. Family EncodedWidth: an instruction
encodes as a 32-bit word exactly when its row of spec/opcode_table.json has 32 bits, and otherwise as a halfword (R100,
R149).
-/

namespace Sys2Proof.Laws.EncodedWidth

/-- The encoding of the instruction is of the execution state that its table row's width belongs to (R149). -/
def Statement (i : Instr) : Prop := (encode i).state = if i.tableRow.width = 16 then .thumb else .arm

theorem andImm (f : DpImm) : Statement (.andImm f) := rfl
theorem andRegImm (f : DpRegImm) : Statement (.andRegImm f) := rfl
theorem andRegReg (f : DpRegReg) : Statement (.andRegReg f) := rfl
theorem eorImm (f : DpImm) : Statement (.eorImm f) := rfl
theorem eorRegImm (f : DpRegImm) : Statement (.eorRegImm f) := rfl
theorem eorRegReg (f : DpRegReg) : Statement (.eorRegReg f) := rfl
theorem subImm (f : DpImm) : Statement (.subImm f) := rfl
theorem subRegImm (f : DpRegImm) : Statement (.subRegImm f) := rfl
theorem subRegReg (f : DpRegReg) : Statement (.subRegReg f) := rfl
theorem rsbImm (f : DpImm) : Statement (.rsbImm f) := rfl
theorem rsbRegImm (f : DpRegImm) : Statement (.rsbRegImm f) := rfl
theorem rsbRegReg (f : DpRegReg) : Statement (.rsbRegReg f) := rfl
theorem addImm (f : DpImm) : Statement (.addImm f) := rfl
theorem addRegImm (f : DpRegImm) : Statement (.addRegImm f) := rfl
theorem addRegReg (f : DpRegReg) : Statement (.addRegReg f) := rfl
theorem adcImm (f : DpImm) : Statement (.adcImm f) := rfl
theorem adcRegImm (f : DpRegImm) : Statement (.adcRegImm f) := rfl
theorem adcRegReg (f : DpRegReg) : Statement (.adcRegReg f) := rfl
theorem sbcImm (f : DpImm) : Statement (.sbcImm f) := rfl
theorem sbcRegImm (f : DpRegImm) : Statement (.sbcRegImm f) := rfl
theorem sbcRegReg (f : DpRegReg) : Statement (.sbcRegReg f) := rfl
theorem rscImm (f : DpImm) : Statement (.rscImm f) := rfl
theorem rscRegImm (f : DpRegImm) : Statement (.rscRegImm f) := rfl
theorem rscRegReg (f : DpRegReg) : Statement (.rscRegReg f) := rfl
theorem tstImm (f : DpImm) : Statement (.tstImm f) := rfl
theorem tstRegImm (f : DpRegImm) : Statement (.tstRegImm f) := rfl
theorem tstRegReg (f : DpRegReg) : Statement (.tstRegReg f) := rfl
theorem teqImm (f : DpImm) : Statement (.teqImm f) := rfl
theorem teqRegImm (f : DpRegImm) : Statement (.teqRegImm f) := rfl
theorem teqRegReg (f : DpRegReg) : Statement (.teqRegReg f) := rfl
theorem cmpImm (f : DpImm) : Statement (.cmpImm f) := rfl
theorem cmpRegImm (f : DpRegImm) : Statement (.cmpRegImm f) := rfl
theorem cmpRegReg (f : DpRegReg) : Statement (.cmpRegReg f) := rfl
theorem cmnImm (f : DpImm) : Statement (.cmnImm f) := rfl
theorem cmnRegImm (f : DpRegImm) : Statement (.cmnRegImm f) := rfl
theorem cmnRegReg (f : DpRegReg) : Statement (.cmnRegReg f) := rfl
theorem orrImm (f : DpImm) : Statement (.orrImm f) := rfl
theorem orrRegImm (f : DpRegImm) : Statement (.orrRegImm f) := rfl
theorem orrRegReg (f : DpRegReg) : Statement (.orrRegReg f) := rfl
theorem movImm (f : DpImm) : Statement (.movImm f) := rfl
theorem movRegImm (f : DpRegImm) : Statement (.movRegImm f) := rfl
theorem movRegReg (f : DpRegReg) : Statement (.movRegReg f) := rfl
theorem bicImm (f : DpImm) : Statement (.bicImm f) := rfl
theorem bicRegImm (f : DpRegImm) : Statement (.bicRegImm f) := rfl
theorem bicRegReg (f : DpRegReg) : Statement (.bicRegReg f) := rfl
theorem mvnImm (f : DpImm) : Statement (.mvnImm f) := rfl
theorem mvnRegImm (f : DpRegImm) : Statement (.mvnRegImm f) := rfl
theorem mvnRegReg (f : DpRegReg) : Statement (.mvnRegReg f) := rfl
theorem mrs (f : MrsForm) : Statement (.mrs f) := rfl
theorem msrReg (f : MsrReg) : Statement (.msrReg f) := rfl
theorem msrImm (f : MsrImm) : Statement (.msrImm f) := rfl
theorem mul (f : MulForm) : Statement (.mul f) := rfl
theorem mla (f : MulForm) : Statement (.mla f) := rfl
theorem umull (f : MulLong) : Statement (.umull f) := rfl
theorem umlal (f : MulLong) : Statement (.umlal f) := rfl
theorem smull (f : MulLong) : Statement (.smull f) := rfl
theorem smlal (f : MulLong) : Statement (.smlal f) := rfl
theorem swp (f : SwpForm) : Statement (.swp f) := rfl
theorem swpb (f : SwpForm) : Statement (.swpb f) := rfl
theorem bx (f : BxForm) : Statement (.bx f) := rfl
theorem strhReg (f : HdtReg) : Statement (.strhReg f) := rfl
theorem strhImm (f : HdtImm) : Statement (.strhImm f) := rfl
theorem ldrhReg (f : HdtReg) : Statement (.ldrhReg f) := rfl
theorem ldrhImm (f : HdtImm) : Statement (.ldrhImm f) := rfl
theorem ldrsbReg (f : HdtReg) : Statement (.ldrsbReg f) := rfl
theorem ldrsbImm (f : HdtImm) : Statement (.ldrsbImm f) := rfl
theorem ldrshReg (f : HdtReg) : Statement (.ldrshReg f) := rfl
theorem ldrshImm (f : HdtImm) : Statement (.ldrshImm f) := rfl
theorem ldrImmPre (f : SdtImm) : Statement (.ldrImmPre f) := rfl
theorem ldrImmPost (f : SdtImm) : Statement (.ldrImmPost f) := rfl
theorem ldrtImm (f : SdtImm) : Statement (.ldrtImm f) := rfl
theorem ldrRegPre (f : SdtReg) : Statement (.ldrRegPre f) := rfl
theorem ldrRegPost (f : SdtReg) : Statement (.ldrRegPost f) := rfl
theorem ldrtReg (f : SdtReg) : Statement (.ldrtReg f) := rfl
theorem strImmPre (f : SdtImm) : Statement (.strImmPre f) := rfl
theorem strImmPost (f : SdtImm) : Statement (.strImmPost f) := rfl
theorem strtImm (f : SdtImm) : Statement (.strtImm f) := rfl
theorem strRegPre (f : SdtReg) : Statement (.strRegPre f) := rfl
theorem strRegPost (f : SdtReg) : Statement (.strRegPost f) := rfl
theorem strtReg (f : SdtReg) : Statement (.strtReg f) := rfl
theorem ldrbImmPre (f : SdtImm) : Statement (.ldrbImmPre f) := rfl
theorem ldrbImmPost (f : SdtImm) : Statement (.ldrbImmPost f) := rfl
theorem ldrbtImm (f : SdtImm) : Statement (.ldrbtImm f) := rfl
theorem ldrbRegPre (f : SdtReg) : Statement (.ldrbRegPre f) := rfl
theorem ldrbRegPost (f : SdtReg) : Statement (.ldrbRegPost f) := rfl
theorem ldrbtReg (f : SdtReg) : Statement (.ldrbtReg f) := rfl
theorem strbImmPre (f : SdtImm) : Statement (.strbImmPre f) := rfl
theorem strbImmPost (f : SdtImm) : Statement (.strbImmPost f) := rfl
theorem strbtImm (f : SdtImm) : Statement (.strbtImm f) := rfl
theorem strbRegPre (f : SdtReg) : Statement (.strbRegPre f) := rfl
theorem strbRegPost (f : SdtReg) : Statement (.strbRegPost f) := rfl
theorem strbtReg (f : SdtReg) : Statement (.strbtReg f) := rfl
theorem ldm (f : BdtForm) : Statement (.ldm f) := rfl
theorem stm (f : BdtForm) : Statement (.stm f) := rfl
theorem b (f : BranchForm) : Statement (.b f) := rfl
theorem bl (f : BranchForm) : Statement (.bl f) := rfl
theorem stc (f : CdtForm) : Statement (.stc f) := rfl
theorem ldc (f : CdtForm) : Statement (.ldc f) := rfl
theorem cdp (f : CdoForm) : Statement (.cdp f) := rfl
theorem mcr (f : CrtForm) : Statement (.mcr f) := rfl
theorem mrc (f : CrtForm) : Statement (.mrc f) := rfl
theorem swi (f : SwiForm) : Statement (.swi f) := rfl
theorem tLslImm (f : TShift) : Statement (.tLslImm f) := rfl
theorem tLsrImm (f : TShift) : Statement (.tLsrImm f) := rfl
theorem tAsrImm (f : TShift) : Statement (.tAsrImm f) := rfl
theorem tAddReg (f : TAddSubReg) : Statement (.tAddReg f) := rfl
theorem tSubReg (f : TAddSubReg) : Statement (.tSubReg f) := rfl
theorem tAddImm3 (f : TAddSubImm) : Statement (.tAddImm3 f) := rfl
theorem tSubImm3 (f : TAddSubImm) : Statement (.tSubImm3 f) := rfl
theorem tMovImm8 (f : TImm8) : Statement (.tMovImm8 f) := rfl
theorem tCmpImm8 (f : TImm8) : Statement (.tCmpImm8 f) := rfl
theorem tAddImm8 (f : TImm8) : Statement (.tAddImm8 f) := rfl
theorem tSubImm8 (f : TImm8) : Statement (.tSubImm8 f) := rfl
theorem tAnd (f : TAlu) : Statement (.tAnd f) := rfl
theorem tEor (f : TAlu) : Statement (.tEor f) := rfl
theorem tLslReg (f : TAlu) : Statement (.tLslReg f) := rfl
theorem tLsrReg (f : TAlu) : Statement (.tLsrReg f) := rfl
theorem tAsrReg (f : TAlu) : Statement (.tAsrReg f) := rfl
theorem tAdc (f : TAlu) : Statement (.tAdc f) := rfl
theorem tSbc (f : TAlu) : Statement (.tSbc f) := rfl
theorem tRor (f : TAlu) : Statement (.tRor f) := rfl
theorem tTst (f : TAlu) : Statement (.tTst f) := rfl
theorem tNeg (f : TAlu) : Statement (.tNeg f) := rfl
theorem tCmpReg (f : TAlu) : Statement (.tCmpReg f) := rfl
theorem tCmn (f : TAlu) : Statement (.tCmn f) := rfl
theorem tOrr (f : TAlu) : Statement (.tOrr f) := rfl
theorem tMul (f : TAlu) : Statement (.tMul f) := rfl
theorem tBic (f : TAlu) : Statement (.tBic f) := rfl
theorem tMvn (f : TAlu) : Statement (.tMvn f) := rfl
theorem tAddHi (f : THigh) : Statement (.tAddHi f) := rfl
theorem tCmpHi (f : THigh) : Statement (.tCmpHi f) := rfl
theorem tMovHi (f : THigh) : Statement (.tMovHi f) := rfl
theorem tBx (f : TBxForm) : Statement (.tBx f) := rfl
theorem tLdrPc (f : TRdWord8) : Statement (.tLdrPc f) := rfl
theorem tStrReg (f : TRegOff) : Statement (.tStrReg f) := rfl
theorem tStrbReg (f : TRegOff) : Statement (.tStrbReg f) := rfl
theorem tLdrReg (f : TRegOff) : Statement (.tLdrReg f) := rfl
theorem tLdrbReg (f : TRegOff) : Statement (.tLdrbReg f) := rfl
theorem tStrhReg (f : TRegOff) : Statement (.tStrhReg f) := rfl
theorem tLdsb (f : TRegOff) : Statement (.tLdsb f) := rfl
theorem tLdrhReg (f : TRegOff) : Statement (.tLdrhReg f) := rfl
theorem tLdsh (f : TRegOff) : Statement (.tLdsh f) := rfl
theorem tStrImm (f : TImmOff) : Statement (.tStrImm f) := rfl
theorem tLdrImm (f : TImmOff) : Statement (.tLdrImm f) := rfl
theorem tStrbImm (f : TImmOff) : Statement (.tStrbImm f) := rfl
theorem tLdrbImm (f : TImmOff) : Statement (.tLdrbImm f) := rfl
theorem tStrhImm (f : TImmOff) : Statement (.tStrhImm f) := rfl
theorem tLdrhImm (f : TImmOff) : Statement (.tLdrhImm f) := rfl
theorem tStrSp (f : TRdWord8) : Statement (.tStrSp f) := rfl
theorem tLdrSp (f : TRdWord8) : Statement (.tLdrSp f) := rfl
theorem tAddPc (f : TRdWord8) : Statement (.tAddPc f) := rfl
theorem tAddSp (f : TRdWord8) : Statement (.tAddSp f) := rfl
theorem tAddSpImm7 (f : BitVec 7) : Statement (.tAddSpImm7 f) := rfl
theorem tSubSpImm7 (f : BitVec 7) : Statement (.tSubSpImm7 f) := rfl
theorem tPush (f : TPushPop) : Statement (.tPush f) := rfl
theorem tPop (f : TPushPop) : Statement (.tPop f) := rfl
theorem tStmia (f : TBlock) : Statement (.tStmia f) := rfl
theorem tLdmia (f : TBlock) : Statement (.tLdmia f) := rfl
theorem tBeq (f : BitVec 8) : Statement (.tBeq f) := rfl
theorem tBne (f : BitVec 8) : Statement (.tBne f) := rfl
theorem tBcs (f : BitVec 8) : Statement (.tBcs f) := rfl
theorem tBcc (f : BitVec 8) : Statement (.tBcc f) := rfl
theorem tBmi (f : BitVec 8) : Statement (.tBmi f) := rfl
theorem tBpl (f : BitVec 8) : Statement (.tBpl f) := rfl
theorem tBvs (f : BitVec 8) : Statement (.tBvs f) := rfl
theorem tBvc (f : BitVec 8) : Statement (.tBvc f) := rfl
theorem tBhi (f : BitVec 8) : Statement (.tBhi f) := rfl
theorem tBls (f : BitVec 8) : Statement (.tBls f) := rfl
theorem tBge (f : BitVec 8) : Statement (.tBge f) := rfl
theorem tBlt (f : BitVec 8) : Statement (.tBlt f) := rfl
theorem tBgt (f : BitVec 8) : Statement (.tBgt f) := rfl
theorem tBle (f : BitVec 8) : Statement (.tBle f) := rfl
theorem tSwi (f : BitVec 8) : Statement (.tSwi f) := rfl
theorem tB (f : BitVec 11) : Statement (.tB f) := rfl
theorem tBlHi (f : BitVec 11) : Statement (.tBlHi f) := rfl
theorem tBlLo (f : BitVec 11) : Statement (.tBlLo f) := rfl

end Sys2Proof.Laws.EncodedWidth
end

