-- ==== Sys2Proof/Tests/Slice0.lean ====
section
/-!
SUPPORT. The model's own tests: ill-formed terms that WellFormed refuses, words written out from the spec's encodings with
the instruction each decodes to, one step of every kind of instruction on a start state of the spec's own vectors
(spec/95_test_vectors.md and spec/96_test_vectors_thumb_system.md: every expected value stands there), and for every
statement with hypotheses a concrete state and operands that meet all of them.
-/

namespace Sys2Proof.Tests

open Sys2Proof.Machine Sys2Proof.Claims

/-! ## Helpers -/

/-- A 32-bit word of a number. -/
def word (n : Nat) : Word := BitVec.ofNat 32 n

/-- A start state of the spec's vectors: the reset state with registers, flags (NZCV as a number) and aligned words of
memory set, and an instruction placed where the next step fetches. -/
def start (thumb : Bool) (base instr : Nat) (regs : List (Nat × Nat)) (nzcv : Nat) (mem : List (Nat × Nat)) : State :=
  let s0 : State := { State.reset with
    t := thumb, n := nzcv.testBit 3, z := nzcv.testBit 2, c := nzcv.testBit 1, v := nzcv.testBit 0 }
  let s1 := regs.foldl (fun s d => s.setReg (BitVec.ofNat 4 d.1) (word d.2)) s0
  let s2 := mem.foldl (fun s d => s.store32 (word d.1) (word d.2)) s1
  (s2.setPc (word (base + if thumb then 2 else 4))).withFetchWord (if thumb then 16 else 32) instr

/-- The step answers a next state with these registers, flags, next fetch address and words of memory. -/
def ends (r : Result) (regs : List (Nat × Nat)) (nzcv next : Nat) (mem : List (Nat × Nat)) : Bool :=
  match r with
  | .next t =>
    regs.all (fun d => t.reg (BitVec.ofNat 4 d.1) == word d.2) && t.fetchAddress == word next &&
      (t.n == nzcv.testBit 3 && t.z == nzcv.testBit 2 && t.c == nzcv.testBit 1 && t.v == nzcv.testBit 0) &&
      mem.all fun d => t.wordAt (word d.1) == word d.2
  | .fault _ => false
  | .refused _ => false

/-! ## Well-formedness: one ill-formed term for each check, and a well-formed one beside it -/

/-- R104: the encoding of a test with S = 0 is not the test. -/
theorem test_wellFormed_test_needs_s : (Instr.cmpImm ⟨.al, false, 1#4, 0#4, 0#4, 1#8⟩).wellFormed = false := by decide

theorem test_wellFormed_test_with_s : (Instr.cmpRegReg ⟨.al, true, 1#4, 0#4, 2#4, .lsl, 3#4⟩).wellFormed = true := by
  decide

/-- R115: a post-indexed transfer with W = 1 is the user-mode variant. -/
theorem test_wellFormed_post_needs_w0 : (Instr.ldrImmPost ⟨.al, true, true, 1#4, 0#4, 4#12⟩).wellFormed = false := by
  decide

/-- R109: a user-mode variant has W = 1. -/
theorem test_wellFormed_user_needs_w1 : (Instr.strtReg ⟨.al, true, false, 1#4, 0#4, 0#5, .lsl, 2#4⟩).wellFormed = false := by
  decide

theorem test_wellFormed_user_with_w1 : (Instr.ldrbtImm ⟨.al, true, true, 1#4, 0#4, 4#12⟩).wellFormed = true := by decide

/-- R22: a 3-bit field names `x[0]` to `x[7]` only. -/
theorem test_wellFormed_low_shift : (Instr.tLslImm ⟨1#5, 0#4, 8#4⟩).wellFormed = false := by decide

theorem test_wellFormed_low_addReg : (Instr.tAddReg ⟨8#4, 0#4, 0#4⟩).wellFormed = false := by decide

theorem test_wellFormed_low_addImm : (Instr.tAddImm3 ⟨1#3, 15#4, 0#4⟩).wellFormed = false := by decide

theorem test_wellFormed_low_imm8 : (Instr.tMovImm8 ⟨8#4, 0#8⟩).wellFormed = false := by decide

theorem test_wellFormed_low_alu : (Instr.tAnd ⟨0#4, 9#4⟩).wellFormed = false := by decide

theorem test_wellFormed_low_word8 : (Instr.tLdrSp ⟨13#4, 0#8⟩).wellFormed = false := by decide

theorem test_wellFormed_low_regOff : (Instr.tStrReg ⟨0#4, 8#4, 0#4⟩).wellFormed = false := by decide

theorem test_wellFormed_low_immOff : (Instr.tLdrImm ⟨0#5, 8#4, 0#4⟩).wellFormed = false := by decide

theorem test_wellFormed_low_block : (Instr.tLdmia ⟨14#4, 1#8⟩).wellFormed = false := by decide

theorem test_wellFormed_high_is_free : (Instr.tMovHi ⟨15#4, 14#4⟩).wellFormed = true := by decide

/-! ## Decoding: for every row of spec/opcode_table.json a word laid out from the row's encoding with the fields named beside it -/

/-- ARM.DP.imm (R104). -/
theorem test_decode_arm_dp_imm :
    decodeArm 0xE2126A0C#32 = some (.andImm ⟨.al, true, 2#4, 6#4, 10#4, 0xc#8⟩) ∧
    decodeArm 0xE220D91F#32 = some (.eorImm ⟨.al, false, 0#4, 13#4, 9#4, 0x1f#8⟩) ∧
    decodeArm 0xF248194E#32 = some (.subImm ⟨.nv, false, 8#4, 1#4, 9#4, 0x4e#8⟩) ∧
    decodeArm 0x026A86C6#32 = some (.rsbImm ⟨.eq, false, 10#4, 8#4, 6#4, 0xc6#8⟩) ∧
    decodeArm 0xE28B749B#32 = some (.addImm ⟨.al, false, 11#4, 7#4, 4#4, 0x9b#8⟩) ∧
    decodeArm 0x02BD55B1#32 = some (.adcImm ⟨.eq, true, 13#4, 5#4, 5#4, 0xb1#8⟩) ∧
    decodeArm 0x02DFAD72#32 = some (.sbcImm ⟨.eq, true, 15#4, 10#4, 13#4, 0x72#8⟩) ∧
    decodeArm 0xB2F366EA#32 = some (.rscImm ⟨.lt, true, 3#4, 6#4, 6#4, 0xea#8⟩) ∧
    decodeArm 0xE31E6F3B#32 = some (.tstImm ⟨.al, true, 14#4, 6#4, 15#4, 0x3b#8⟩) ∧
    decodeArm 0xF336859C#32 = some (.teqImm ⟨.nv, true, 6#4, 8#4, 5#4, 0x9c#8⟩) ∧
    decodeArm 0xB356661A#32 = some (.cmpImm ⟨.lt, true, 6#4, 6#4, 6#4, 0x1a#8⟩) ∧
    decodeArm 0x03792819#32 = some (.cmnImm ⟨.eq, true, 9#4, 2#4, 8#4, 0x19#8⟩) ∧
    decodeArm 0xB381D7FE#32 = some (.orrImm ⟨.lt, false, 1#4, 13#4, 7#4, 0xfe#8⟩) ∧
    decodeArm 0xF3BF8525#32 = some (.movImm ⟨.nv, true, 15#4, 8#4, 5#4, 0x25#8⟩) ∧
    decodeArm 0x03C88C80#32 = some (.bicImm ⟨.eq, false, 8#4, 8#4, 12#4, 0x80#8⟩) ∧
    decodeArm 0xE3E5B0FD#32 = some (.mvnImm ⟨.al, false, 5#4, 11#4, 0#4, 0xfd#8⟩) := by
  decide

/-- ARM.DP.regimm (R104). -/
theorem test_decode_arm_dp_regimm :
    decodeArm 0xF011590E#32 = some (.andRegImm ⟨.nv, true, 1#4, 5#4, 0x12#5, .lsl, 14#4⟩) ∧
    decodeArm 0xB039F0C9#32 = some (.eorRegImm ⟨.lt, true, 9#4, 15#4, 0x1#5, .asr, 9#4⟩) ∧
    decodeArm 0xE052194A#32 = some (.subRegImm ⟨.al, true, 2#4, 1#4, 0x12#5, .asr, 10#4⟩) ∧
    decodeArm 0xE07E75A3#32 = some (.rsbRegImm ⟨.al, true, 14#4, 7#4, 0xb#5, .lsr, 3#4⟩) ∧
    decodeArm 0xB0962C22#32 = some (.addRegImm ⟨.lt, true, 6#4, 2#4, 0x18#5, .lsr, 2#4⟩) ∧
    decodeArm 0xE0A9C70D#32 = some (.adcRegImm ⟨.al, false, 9#4, 12#4, 0xe#5, .lsl, 13#4⟩) ∧
    decodeArm 0xB0CEA58F#32 = some (.sbcRegImm ⟨.lt, false, 14#4, 10#4, 0xb#5, .lsl, 15#4⟩) ∧
    decodeArm 0xE0E768AE#32 = some (.rscRegImm ⟨.al, false, 7#4, 6#4, 0x11#5, .lsr, 14#4⟩) ∧
    decodeArm 0xE11223C3#32 = some (.tstRegImm ⟨.al, true, 2#4, 2#4, 0x7#5, .asr, 3#4⟩) ∧
    decodeArm 0xF13F2B68#32 = some (.teqRegImm ⟨.nv, true, 15#4, 2#4, 0x16#5, .ror, 8#4⟩) ∧
    decodeArm 0xE156030F#32 = some (.cmpRegImm ⟨.al, true, 6#4, 0#4, 0x6#5, .lsl, 15#4⟩) ∧
    decodeArm 0xB1701D89#32 = some (.cmnRegImm ⟨.lt, true, 0#4, 1#4, 0x1b#5, .lsl, 9#4⟩) ∧
    decodeArm 0x0184120B#32 = some (.orrRegImm ⟨.eq, false, 4#4, 1#4, 0x4#5, .lsl, 11#4⟩) ∧
    decodeArm 0xE1AC84EA#32 = some (.movRegImm ⟨.al, false, 12#4, 8#4, 0x9#5, .ror, 10#4⟩) ∧
    decodeArm 0xE1C9CCEC#32 = some (.bicRegImm ⟨.al, false, 9#4, 12#4, 0x19#5, .ror, 12#4⟩) ∧
    decodeArm 0x01E74349#32 = some (.mvnRegImm ⟨.eq, false, 7#4, 4#4, 0x6#5, .asr, 9#4⟩) := by
  decide

/-- ARM.DP.regreg (R104). -/
theorem test_decode_arm_dp_regreg :
    decodeArm 0xE0016613#32 = some (.andRegReg ⟨.al, false, 1#4, 6#4, 6#4, .lsl, 3#4⟩) ∧
    decodeArm 0x00330872#32 = some (.eorRegReg ⟨.eq, true, 3#4, 0#4, 8#4, .ror, 2#4⟩) ∧
    decodeArm 0xF048B150#32 = some (.subRegReg ⟨.nv, false, 8#4, 11#4, 1#4, .asr, 0#4⟩) ∧
    decodeArm 0xB0731938#32 = some (.rsbRegReg ⟨.lt, true, 3#4, 1#4, 9#4, .lsr, 8#4⟩) ∧
    decodeArm 0xF08FA178#32 = some (.addRegReg ⟨.nv, false, 15#4, 10#4, 1#4, .ror, 8#4⟩) ∧
    decodeArm 0x00A7BA10#32 = some (.adcRegReg ⟨.eq, false, 7#4, 11#4, 10#4, .lsl, 0#4⟩) ∧
    decodeArm 0x00C91713#32 = some (.sbcRegReg ⟨.eq, false, 9#4, 1#4, 7#4, .lsl, 3#4⟩) ∧
    decodeArm 0x00ED8456#32 = some (.rscRegReg ⟨.eq, false, 13#4, 8#4, 4#4, .asr, 6#4⟩) ∧
    decodeArm 0xE11D9234#32 = some (.tstRegReg ⟨.al, true, 13#4, 9#4, 2#4, .lsr, 4#4⟩) ∧
    decodeArm 0xF13AB03E#32 = some (.teqRegReg ⟨.nv, true, 10#4, 11#4, 0#4, .lsr, 14#4⟩) ∧
    decodeArm 0xE1521550#32 = some (.cmpRegReg ⟨.al, true, 2#4, 1#4, 5#4, .asr, 0#4⟩) ∧
    decodeArm 0x017A4F39#32 = some (.cmnRegReg ⟨.eq, true, 10#4, 4#4, 15#4, .lsr, 9#4⟩) ∧
    decodeArm 0xE187DB18#32 = some (.orrRegReg ⟨.al, false, 7#4, 13#4, 11#4, .lsl, 8#4⟩) ∧
    decodeArm 0x01B48572#32 = some (.movRegReg ⟨.eq, true, 4#4, 8#4, 5#4, .ror, 2#4⟩) ∧
    decodeArm 0xE1CD6B73#32 = some (.bicRegReg ⟨.al, false, 13#4, 6#4, 11#4, .ror, 3#4⟩) ∧
    decodeArm 0x01FEBF3F#32 = some (.mvnRegReg ⟨.eq, true, 14#4, 11#4, 15#4, .lsr, 15#4⟩) := by
  decide

/-- ARM.MRS (R105). -/
theorem test_decode_arm_mrs :
    decodeArm 0xE10F1000#32 = some (.mrs ⟨.al, false, 1#4⟩) := by
  decide

/-- ARM.MSR.reg (R105). -/
theorem test_decode_arm_msr_reg :
    decodeArm 0xB125F003#32 = some (.msrReg ⟨.lt, false, ⟨false, true, false, true⟩, 3#4⟩) := by
  decide

/-- ARM.MSR.imm (R105). -/
theorem test_decode_arm_msr_imm :
    decodeArm 0xE36EF9D7#32 = some (.msrImm ⟨.al, true, ⟨true, true, true, false⟩, 9#4, 0xd7#8⟩) := by
  decide

/-- ARM.MUL (R106). -/
theorem test_decode_arm_mul :
    decodeArm 0xE01A5C9A#32 = some (.mul ⟨.al, true, 10#4, 5#4, 12#4, 10#4⟩) ∧
    decodeArm 0xE031E69C#32 = some (.mla ⟨.al, true, 1#4, 14#4, 6#4, 12#4⟩) := by
  decide

/-- ARM.MULL (R106). -/
theorem test_decode_arm_mull :
    decodeArm 0x00926C9A#32 = some (.umull ⟨.eq, true, 2#4, 6#4, 12#4, 10#4⟩) ∧
    decodeArm 0xB0BFFB96#32 = some (.umlal ⟨.lt, true, 15#4, 15#4, 11#4, 6#4⟩) ∧
    decodeArm 0xE0DF1B92#32 = some (.smull ⟨.al, true, 15#4, 1#4, 11#4, 2#4⟩) ∧
    decodeArm 0xB0E0299E#32 = some (.smlal ⟨.lt, false, 0#4, 2#4, 9#4, 14#4⟩) := by
  decide

/-- ARM.SWP (R107). -/
theorem test_decode_arm_swp :
    decodeArm 0xF10A2099#32 = some (.swp ⟨.nv, 10#4, 2#4, 9#4⟩) ∧
    decodeArm 0x0147A09E#32 = some (.swpb ⟨.eq, 7#4, 10#4, 14#4⟩) := by
  decide

/-- ARM.BX (R107). -/
theorem test_decode_arm_bx :
    decodeArm 0xF12FFF18#32 = some (.bx ⟨.nv, 8#4⟩) := by
  decide

/-- ARM.HDT.reg (R108). -/
theorem test_decode_arm_hdt_reg :
    decodeArm 0xF02FBAB1#32 = some (.strhReg ⟨.nv, false, false, true, 15#4, 11#4, 10#4, 1#4⟩) ∧
    decodeArm 0x00183CB9#32 = some (.ldrhReg ⟨.eq, false, false, false, 8#4, 3#4, 12#4, 9#4⟩) ∧
    decodeArm 0xF0BDE8D6#32 = some (.ldrsbReg ⟨.nv, false, true, true, 13#4, 14#4, 8#4, 6#4⟩) ∧
    decodeArm 0xF0B222F7#32 = some (.ldrshReg ⟨.nv, false, true, true, 2#4, 2#4, 2#4, 7#4⟩) := by
  decide

/-- ARM.HDT.imm (R108). -/
theorem test_decode_arm_hdt_imm :
    decodeArm 0xE14FD3BD#32 = some (.strhImm ⟨.al, true, false, false, 15#4, 13#4, 3#4, 13#4⟩) ∧
    decodeArm 0x01720EBB#32 = some (.ldrhImm ⟨.eq, true, false, true, 2#4, 0#4, 14#4, 11#4⟩) ∧
    decodeArm 0xE1780DD7#32 = some (.ldrsbImm ⟨.al, true, false, true, 8#4, 0#4, 13#4, 7#4⟩) ∧
    decodeArm 0xF0D5A8F8#32 = some (.ldrshImm ⟨.nv, false, true, false, 5#4, 10#4, 8#4, 8#4⟩) := by
  decide

/-- ARM.SDT.imm (R109). -/
theorem test_decode_arm_sdt_imm :
    decodeArm 0xE5B1E8F6#32 = some (.ldrImmPre ⟨.al, true, true, 1#4, 14#4, 0x8f6#12⟩) ∧
    decodeArm 0xE4140C5B#32 = some (.ldrImmPost ⟨.al, false, false, 4#4, 0#4, 0xc5b#12⟩) ∧
    decodeArm 0xE4380C28#32 = some (.ldrtImm ⟨.al, false, true, 8#4, 0#4, 0xc28#12⟩) ∧
    decodeArm 0xB58D7231#32 = some (.strImmPre ⟨.lt, true, false, 13#4, 7#4, 0x231#12⟩) ∧
    decodeArm 0xE4075129#32 = some (.strImmPost ⟨.al, false, false, 7#4, 5#4, 0x129#12⟩) ∧
    decodeArm 0xE423A4D8#32 = some (.strtImm ⟨.al, false, true, 3#4, 10#4, 0x4d8#12⟩) ∧
    decodeArm 0x05DF8676#32 = some (.ldrbImmPre ⟨.eq, true, false, 15#4, 8#4, 0x676#12⟩) ∧
    decodeArm 0x04555179#32 = some (.ldrbImmPost ⟨.eq, false, false, 5#4, 5#4, 0x179#12⟩) ∧
    decodeArm 0xE478770C#32 = some (.ldrbtImm ⟨.al, false, true, 8#4, 7#4, 0x70c#12⟩) ∧
    decodeArm 0x056EAD1A#32 = some (.strbImmPre ⟨.eq, false, true, 14#4, 10#4, 0xd1a#12⟩) ∧
    decodeArm 0xF448E83C#32 = some (.strbImmPost ⟨.nv, false, false, 8#4, 14#4, 0x83c#12⟩) ∧
    decodeArm 0xE4E51477#32 = some (.strbtImm ⟨.al, true, true, 5#4, 1#4, 0x477#12⟩) := by
  decide

/-- ARM.SDT.reg (R109). -/
theorem test_decode_arm_sdt_reg :
    decodeArm 0x073F89C3#32 = some (.ldrRegPre ⟨.eq, false, true, 15#4, 8#4, 0x13#5, .asr, 3#4⟩) ∧
    decodeArm 0xE698C7CF#32 = some (.ldrRegPost ⟨.al, true, false, 8#4, 12#4, 0xf#5, .asr, 15#4⟩) ∧
    decodeArm 0xF6BEEF64#32 = some (.ldrtReg ⟨.nv, true, true, 14#4, 14#4, 0x1e#5, .ror, 4#4⟩) ∧
    decodeArm 0xE78FBA45#32 = some (.strRegPre ⟨.al, true, false, 15#4, 11#4, 0x14#5, .asr, 5#4⟩) ∧
    decodeArm 0xE682F70B#32 = some (.strRegPost ⟨.al, true, false, 2#4, 15#4, 0xe#5, .lsl, 11#4⟩) ∧
    decodeArm 0xE6A72FCD#32 = some (.strtReg ⟨.al, true, true, 7#4, 2#4, 0x1f#5, .asr, 13#4⟩) ∧
    decodeArm 0xE7794861#32 = some (.ldrbRegPre ⟨.al, false, true, 9#4, 4#4, 0x10#5, .ror, 1#4⟩) ∧
    decodeArm 0xE6DC3FE1#32 = some (.ldrbRegPost ⟨.al, true, false, 12#4, 3#4, 0x1f#5, .ror, 1#4⟩) ∧
    decodeArm 0xE670EC04#32 = some (.ldrbtReg ⟨.al, false, true, 0#4, 14#4, 0x18#5, .lsl, 4#4⟩) ∧
    decodeArm 0xE7C6E12F#32 = some (.strbRegPre ⟨.al, true, false, 6#4, 14#4, 0x2#5, .lsr, 15#4⟩) ∧
    decodeArm 0xE64C414D#32 = some (.strbRegPost ⟨.al, false, false, 12#4, 4#4, 0x2#5, .asr, 13#4⟩) ∧
    decodeArm 0xF66D1705#32 = some (.strbtReg ⟨.nv, false, true, 13#4, 1#4, 0xe#5, .lsl, 5#4⟩) := by
  decide

/-- ARM.BDT (R110). -/
theorem test_decode_arm_bdt :
    decodeArm 0xF9B20B0F#32 = some (.ldm ⟨.nv, true, true, false, true, 2#4, 0xb0f#16⟩) ∧
    decodeArm 0xE8A2430B#32 = some (.stm ⟨.al, false, true, false, true, 2#4, 0x430b#16⟩) := by
  decide

/-- ARM.B (R111). -/
theorem test_decode_arm_b :
    decodeArm 0x0A33A715#32 = some (.b ⟨.eq, 0x33a715#24⟩) ∧
    decodeArm 0xFB4E14D5#32 = some (.bl ⟨.nv, 0x4e14d5#24⟩) := by
  decide

/-- ARM.CDT (R112). -/
theorem test_decode_arm_cdt :
    decodeArm 0xEC2A2458#32 = some (.stc ⟨.al, false, false, false, true, 10#4, 2#4, 4#4, 0x58#8⟩) ∧
    decodeArm 0xEC1B88FA#32 = some (.ldc ⟨.al, false, false, false, false, 11#4, 8#4, 8#4, 0xfa#8⟩) := by
  decide

/-- ARM.CDO (R112). -/
theorem test_decode_arm_cdo :
    decodeArm 0xBE73E70A#32 = some (.cdp ⟨.lt, 7#4, 3#4, 14#4, 7#4, 0#3, 10#4⟩) := by
  decide

/-- ARM.CRT (R112). -/
theorem test_decode_arm_crt :
    decodeArm 0xFE68DE7F#32 = some (.mcr ⟨.nv, 3#3, 8#4, 13#4, 14#4, 3#3, 15#4⟩) ∧
    decodeArm 0xEEB3F353#32 = some (.mrc ⟨.al, 5#3, 3#4, 15#4, 3#4, 2#3, 3#4⟩) := by
  decide

/-- ARM.SWI (R113). -/
theorem test_decode_arm_swi :
    decodeArm 0x0FFD4BD0#32 = some (.swi ⟨.eq, 0xfd4bd0#24⟩) := by
  decide

/-- THUMB.F1 (R120). -/
theorem test_decode_thumb_f1 :
    decodeThumb 0x07C6#16 = some (.tLslImm ⟨0x1f#5, 0#4, 6#4⟩) ∧
    decodeThumb 0x0900#16 = some (.tLsrImm ⟨0x4#5, 0#4, 0#4⟩) ∧
    decodeThumb 0x152F#16 = some (.tAsrImm ⟨0x14#5, 5#4, 7#4⟩) := by
  decide

/-- THUMB.F2 (R121). -/
theorem test_decode_thumb_f2 :
    decodeThumb 0x1899#16 = some (.tAddReg ⟨2#4, 3#4, 1#4⟩) ∧
    decodeThumb 0x1A05#16 = some (.tSubReg ⟨0#4, 0#4, 5#4⟩) ∧
    decodeThumb 0x1D9E#16 = some (.tAddImm3 ⟨6#3, 3#4, 6#4⟩) ∧
    decodeThumb 0x1F2F#16 = some (.tSubImm3 ⟨4#3, 5#4, 7#4⟩) := by
  decide

/-- THUMB.F3 (R122). -/
theorem test_decode_thumb_f3 :
    decodeThumb 0x2299#16 = some (.tMovImm8 ⟨2#4, 0x99#8⟩) ∧
    decodeThumb 0x29B1#16 = some (.tCmpImm8 ⟨1#4, 0xb1#8⟩) ∧
    decodeThumb 0x320B#16 = some (.tAddImm8 ⟨2#4, 0xb#8⟩) ∧
    decodeThumb 0x3B2F#16 = some (.tSubImm8 ⟨3#4, 0x2f#8⟩) := by
  decide

/-- THUMB.F4 (R123). -/
theorem test_decode_thumb_f4 :
    decodeThumb 0x400A#16 = some (.tAnd ⟨1#4, 2#4⟩) ∧
    decodeThumb 0x4058#16 = some (.tEor ⟨3#4, 0#4⟩) ∧
    decodeThumb 0x4092#16 = some (.tLslReg ⟨2#4, 2#4⟩) ∧
    decodeThumb 0x40FA#16 = some (.tLsrReg ⟨7#4, 2#4⟩) ∧
    decodeThumb 0x413F#16 = some (.tAsrReg ⟨7#4, 7#4⟩) ∧
    decodeThumb 0x4162#16 = some (.tAdc ⟨4#4, 2#4⟩) ∧
    decodeThumb 0x4188#16 = some (.tSbc ⟨1#4, 0#4⟩) ∧
    decodeThumb 0x41FF#16 = some (.tRor ⟨7#4, 7#4⟩) ∧
    decodeThumb 0x4211#16 = some (.tTst ⟨2#4, 1#4⟩) ∧
    decodeThumb 0x4251#16 = some (.tNeg ⟨2#4, 1#4⟩) ∧
    decodeThumb 0x4282#16 = some (.tCmpReg ⟨0#4, 2#4⟩) ∧
    decodeThumb 0x42D8#16 = some (.tCmn ⟨3#4, 0#4⟩) ∧
    decodeThumb 0x431A#16 = some (.tOrr ⟨3#4, 2#4⟩) ∧
    decodeThumb 0x4365#16 = some (.tMul ⟨4#4, 5#4⟩) ∧
    decodeThumb 0x4389#16 = some (.tBic ⟨1#4, 1#4⟩) ∧
    decodeThumb 0x43E6#16 = some (.tMvn ⟨4#4, 6#4⟩) := by
  decide

/-- THUMB.F5 (R124). -/
theorem test_decode_thumb_f5 :
    decodeThumb 0x4416#16 = some (.tAddHi ⟨2#4, 6#4⟩) ∧
    decodeThumb 0x451C#16 = some (.tCmpHi ⟨3#4, 4#4⟩) ∧
    decodeThumb 0x4602#16 = some (.tMovHi ⟨0#4, 2#4⟩) ∧
    decodeThumb 0x4728#16 = some (.tBx ⟨5#4⟩) := by
  decide

/-- THUMB.F6 (R125). -/
theorem test_decode_thumb_f6 :
    decodeThumb 0x4915#16 = some (.tLdrPc ⟨1#4, 0x15#8⟩) := by
  decide

/-- THUMB.F7 (R126). -/
theorem test_decode_thumb_f7 :
    decodeThumb 0x513C#16 = some (.tStrReg ⟨4#4, 7#4, 4#4⟩) ∧
    decodeThumb 0x55B1#16 = some (.tStrbReg ⟨6#4, 6#4, 1#4⟩) ∧
    decodeThumb 0x597D#16 = some (.tLdrReg ⟨5#4, 7#4, 5#4⟩) ∧
    decodeThumb 0x5DBC#16 = some (.tLdrbReg ⟨6#4, 7#4, 4#4⟩) := by
  decide

/-- THUMB.F8 (R127). -/
theorem test_decode_thumb_f8 :
    decodeThumb 0x52F2#16 = some (.tStrhReg ⟨3#4, 6#4, 2#4⟩) ∧
    decodeThumb 0x577B#16 = some (.tLdsb ⟨5#4, 7#4, 3#4⟩) ∧
    decodeThumb 0x5A55#16 = some (.tLdrhReg ⟨1#4, 2#4, 5#4⟩) ∧
    decodeThumb 0x5F29#16 = some (.tLdsh ⟨4#4, 5#4, 1#4⟩) := by
  decide

/-- THUMB.F9 (R128). -/
theorem test_decode_thumb_f9 :
    decodeThumb 0x6076#16 = some (.tStrImm ⟨0x1#5, 6#4, 6#4⟩) ∧
    decodeThumb 0x6DBC#16 = some (.tLdrImm ⟨0x16#5, 7#4, 4#4⟩) ∧
    decodeThumb 0x751D#16 = some (.tStrbImm ⟨0x14#5, 3#4, 5#4⟩) ∧
    decodeThumb 0x7DB4#16 = some (.tLdrbImm ⟨0x16#5, 6#4, 4#4⟩) := by
  decide

/-- THUMB.F10 (R129). -/
theorem test_decode_thumb_f10 :
    decodeThumb 0x813C#16 = some (.tStrhImm ⟨0x4#5, 7#4, 4#4⟩) ∧
    decodeThumb 0x8E24#16 = some (.tLdrhImm ⟨0x18#5, 4#4, 4#4⟩) := by
  decide

/-- THUMB.F11 (R130). -/
theorem test_decode_thumb_f11 :
    decodeThumb 0x96D0#16 = some (.tStrSp ⟨6#4, 0xd0#8⟩) ∧
    decodeThumb 0x9E04#16 = some (.tLdrSp ⟨6#4, 0x4#8⟩) := by
  decide

/-- THUMB.F12 (R131). -/
theorem test_decode_thumb_f12 :
    decodeThumb 0xA6AF#16 = some (.tAddPc ⟨6#4, 0xaf#8⟩) ∧
    decodeThumb 0xACCC#16 = some (.tAddSp ⟨4#4, 0xcc#8⟩) := by
  decide

/-- THUMB.F13 (R132). -/
theorem test_decode_thumb_f13 :
    decodeThumb 0xB072#16 = some (.tAddSpImm7 0x72#7) ∧
    decodeThumb 0xB0DB#16 = some (.tSubSpImm7 0x5b#7) := by
  decide

/-- THUMB.F14 (R133). -/
theorem test_decode_thumb_f14 :
    decodeThumb 0xB5F4#16 = some (.tPush ⟨true, 0xf4#8⟩) ∧
    decodeThumb 0xBDA4#16 = some (.tPop ⟨true, 0xa4#8⟩) := by
  decide

/-- THUMB.F15 (R134). -/
theorem test_decode_thumb_f15 :
    decodeThumb 0xC115#16 = some (.tStmia ⟨1#4, 0x15#8⟩) ∧
    decodeThumb 0xC80A#16 = some (.tLdmia ⟨0#4, 0xa#8⟩) := by
  decide

/-- THUMB.F16 (R135). -/
theorem test_decode_thumb_f16 :
    decodeThumb 0xD022#16 = some (.tBeq 0x22#8) ∧
    decodeThumb 0xD1A3#16 = some (.tBne 0xa3#8) ∧
    decodeThumb 0xD25C#16 = some (.tBcs 0x5c#8) ∧
    decodeThumb 0xD3F5#16 = some (.tBcc 0xf5#8) ∧
    decodeThumb 0xD41A#16 = some (.tBmi 0x1a#8) ∧
    decodeThumb 0xD560#16 = some (.tBpl 0x60#8) ∧
    decodeThumb 0xD6D5#16 = some (.tBvs 0xd5#8) ∧
    decodeThumb 0xD773#16 = some (.tBvc 0x73#8) ∧
    decodeThumb 0xD88E#16 = some (.tBhi 0x8e#8) ∧
    decodeThumb 0xD90C#16 = some (.tBls 0xc#8) ∧
    decodeThumb 0xDAA0#16 = some (.tBge 0xa0#8) ∧
    decodeThumb 0xDB04#16 = some (.tBlt 0x4#8) ∧
    decodeThumb 0xDCA0#16 = some (.tBgt 0xa0#8) ∧
    decodeThumb 0xDD88#16 = some (.tBle 0x88#8) := by
  decide

/-- THUMB.F17 (R136). -/
theorem test_decode_thumb_f17 :
    decodeThumb 0xDFAE#16 = some (.tSwi 0xae#8) := by
  decide

/-- THUMB.F18 (R137). -/
theorem test_decode_thumb_f18 :
    decodeThumb 0xE1F4#16 = some (.tB 0x1f4#11) := by
  decide

/-- THUMB.F19 (R138). -/
theorem test_decode_thumb_f19 :
    decodeThumb 0xF3EA#16 = some (.tBlHi 0x3ea#11) ∧
    decodeThumb 0xFA1C#16 = some (.tBlLo 0x21c#11) := by
  decide
/-! ## One step of every kind of instruction, on the vectors of the spec -/

/-- `AND r0, r1, r2` (V3). -/
theorem test_step_andRegImm :
    ends (step (start false 0x100 0xE0010002 [(1, 0xFF00FF00), (2, 0xFF00FF0)] 0 [])) [(0, 0xF000F00)] 0 0x104 [] = true := by
  decide

/-- `EORS r0, r0, r0` (V3). -/
theorem test_step_eorRegImm :
    ends (step (start false 0x100 0xE0300000 [(0, 0x1234)] 2 [])) [(0, 0)] 6 0x104 [] = true := by
  decide

/-- `SUBS r0, r1, r2` (V3). -/
theorem test_step_subRegImm :
    ends (step (start false 0x100 0xE0510002 [(1, 5), (2, 5)] 0 [])) [(0, 0)] 6 0x104 [] = true := by
  decide

/-- `RSBS r0, r1, #0` (V3). -/
theorem test_step_rsbImm :
    ends (step (start false 0x100 0xE2710000 [(1, 0x80000000)] 0 [])) [(0, 0x80000000)] 9 0x104 [] = true := by
  decide

/-- `ADDS r0, r1, r2` (V3). -/
theorem test_step_addRegImm :
    ends (step (start false 0x100 0xE0910002 [(1, 0x7FFFFFFF), (2, 1)] 0 [])) [(0, 0x80000000)] 9 0x104 [] = true := by
  decide

/-- `ADCS r0, r1, r2` (V3). -/
theorem test_step_adcRegImm :
    ends (step (start false 0x100 0xE0B10002 [(1, 0xFFFFFFFF)] 2 [])) [(0, 0)] 6 0x104 [] = true := by
  decide

/-- `SBCS r0, r1, r2` (V3). -/
theorem test_step_sbcRegImm :
    ends (step (start false 0x100 0xE0D10002 [(1, 5), (2, 5)] 0 [])) [(0, 0xFFFFFFFF)] 8 0x104 [] = true := by
  decide

/-- `RSCS r0, r1, r2` (V3). -/
theorem test_step_rscRegImm :
    ends (step (start false 0x100 0xE0F10002 [(1, 2), (2, 5)] 0 [])) [(0, 2)] 2 0x104 [] = true := by
  decide

/-- `TST r1, #0x80000000` (V3). -/
theorem test_step_tstImm :
    ends (step (start false 0x100 0xE3110102 [(1, 0x80000000)] 0 [])) [] 10 0x104 [] = true := by
  decide

/-- `TEQ r1, r2` (V3). -/
theorem test_step_teqRegImm :
    ends (step (start false 0x100 0xE1310002 [(1, 0x80000000), (2, 1)] 3 [])) [] 11 0x104 [] = true := by
  decide

/-- `CMP r1, r2` (V3). -/
theorem test_step_cmpRegImm :
    ends (step (start false 0x100 0xE1510002 [(1, 1), (2, 2)] 0 [])) [] 8 0x104 [] = true := by
  decide

/-- `CMN r1, r2` (V3). -/
theorem test_step_cmnRegImm :
    ends (step (start false 0x100 0xE1710002 [(1, 1), (2, 0xFFFFFFFF)] 0 [])) [] 6 0x104 [] = true := by
  decide

/-- `ORRS r0, r1, #0` (V3). -/
theorem test_step_orrImm :
    ends (step (start false 0x100 0xE3910000 [] 8 [])) [(0, 0)] 4 0x104 [] = true := by
  decide

/-- `MOVS r0, r1` (V3). -/
theorem test_step_movRegImm :
    ends (step (start false 0x100 0xE1B00001 [(1, 0x80000000)] 0 [])) [(0, 0x80000000)] 8 0x104 [] = true := by
  decide

/-- `BICS r0, r1, r2` (V3). -/
theorem test_step_bicRegImm :
    ends (step (start false 0x100 0xE1D10002 [(1, 0xFFFFFFFF), (2, 0xFFFFFFFF)] 0 [])) [(0, 0)] 4 0x104 [] = true := by
  decide

/-- `MVNS r0, r1` (V3). -/
theorem test_step_mvnRegImm :
    ends (step (start false 0x100 0xE1F00001 [] 0 [])) [(0, 0xFFFFFFFF)] 8 0x104 [] = true := by
  decide

/-- `MUL r0, r1, r2` (V4). -/
theorem test_step_mul :
    ends (step (start false 0x100 0xE0000291 [(1, 7), (2, 6)] 0 [])) [(0, 0x2A)] 0 0x104 [] = true := by
  decide

/-- `MLA r0, r1, r2, r3` (V4). -/
theorem test_step_mla :
    ends (step (start false 0x100 0xE0203291 [(1, 7), (2, 6), (3, 8)] 0 [])) [(0, 0x32)] 0 0x104 [] = true := by
  decide

/-- `UMULL r0, r1, r2, r3` (V4). -/
theorem test_step_umull :
    ends (step (start false 0x100 0xE0810392 [(2, 0xFFFFFFFF), (3, 0xFFFFFFFF)] 0 [])) [(0, 1), (1, 0xFFFFFFFE)] 0 0x104 [] = true := by
  decide

/-- `UMLAL r0, r1, r2, r3` (V4). -/
theorem test_step_umlal :
    ends (step (start false 0x100 0xE0A10392 [(0, 0xFFFFFFFF), (2, 2), (3, 3)] 0 [])) [(0, 5), (1, 1)] 0 0x104 [] = true := by
  decide

/-- `SMULL r0, r1, r2, r3` (V4). -/
theorem test_step_smull :
    ends (step (start false 0x100 0xE0C10392 [(2, 0xFFFFFFFF), (3, 2)] 0 [])) [(0, 0xFFFFFFFE), (1, 0xFFFFFFFF)] 0 0x104 [] = true := by
  decide

/-- `SMLAL r0, r1, r2, r3` (V4). -/
theorem test_step_smlal :
    ends (step (start false 0x100 0xE0E10392 [(0, 1), (2, 0xFFFFFFFF), (3, 1)] 0 [])) [(0, 0), (1, 0)] 0 0x104 [] = true := by
  decide

/-- `B 0x110` (V5). -/
theorem test_step_b :
    ends (step (start false 0x100 0xEA000002 [] 0 [])) [] 0 0x110 [] = true := by
  decide

/-- `BL 0x200` (V5). -/
theorem test_step_bl :
    ends (step (start false 0x100 0xEB00003E [] 0 [])) [(14, 0x104)] 0 0x200 [] = true := by
  decide

/-- `BX r0` (V5). -/
theorem test_step_bx :
    ends (step (start false 0x100 0xE12FFF10 [(0, 0x8000101)] 0 [])) [] 0 0x8000100 [] = true := by
  decide

/-- `LDR r0, [r1]` (V6). -/
theorem test_step_ldrImmPre :
    ends (step (start false 0x100 0xE5910000 [(1, 0x2000)] 0 [(0x2000, 0x44332211), (0x2004, 0x88776655)])) [(0, 0x44332211)] 0 0x104 [] = true := by
  decide

/-- `LDRB r0, [r1, #3]` (V6). -/
theorem test_step_ldrbImmPre :
    ends (step (start false 0x100 0xE5D10003 [(1, 0x2004)] 0 [(0x2000, 0x44332211), (0x2004, 0x88776655)])) [(0, 0x88)] 0 0x104 [] = true := by
  decide

/-- `LDRBT r0, [r1], #1` (V6). -/
theorem test_step_ldrbtImm :
    ends (step (start false 0x100 0xE4F10001 [(1, 0x2001)] 0 [(0x2000, 0x44332211), (0x2004, 0x88776655)])) [(0, 0x22), (1, 0x2002)] 0 0x104 [] = true := by
  decide

/-- `LDRT r0, [r1], #-4` (V6). -/
theorem test_step_ldrtImm :
    ends (step (start false 0x100 0xE4310004 [(1, 0x2004)] 0 [(0x2000, 0x44332211), (0x2004, 0x88776655)])) [(0, 0x88776655), (1, 0x2000)] 0 0x104 [] = true := by
  decide

/-- `STR r0, [r1]` (V6). -/
theorem test_step_strImmPre :
    ends (step (start false 0x100 0xE5810000 [(0, 0xAABBCCDD), (1, 0x2000)] 0 [(0x2000, 0x44332211), (0x2004, 0x88776655)])) [] 0 0x104 [(0x2000, 0xAABBCCDD)] = true := by
  decide

/-- `STRB r0, [r1, #2]` (V6). -/
theorem test_step_strbImmPre :
    ends (step (start false 0x100 0xE5C10002 [(0, 0xAABBCCDD), (1, 0x2000)] 0 [(0x2000, 0x44332211), (0x2004, 0x88776655)])) [] 0 0x104 [(0x2000, 0x44DD2211)] = true := by
  decide

/-- `STRT r0, [r1], #4` (V6). -/
theorem test_step_strtImm :
    ends (step (start false 0x100 0xE4A10004 [(0, 0xAABBCCDD), (1, 0x2000)] 0 [(0x2000, 0x44332211), (0x2004, 0x88776655)])) [(1, 0x2004)] 0 0x104 [(0x2000, 0xAABBCCDD)] = true := by
  decide

/-- `STRBT r0, [r1], #-1` (V6). -/
theorem test_step_strbtImm :
    ends (step (start false 0x100 0xE4610001 [(0, 0xEE), (1, 0x2007)] 0 [(0x2000, 0x44332211), (0x2004, 0x88776655)])) [(1, 0x2006)] 0 0x104 [(0x2004, 0xEE776655)] = true := by
  decide

/-- `LDRH r0, [r1, #2]` (V6). -/
theorem test_step_ldrhImm :
    ends (step (start false 0x100 0xE1D100B2 [(1, 0x2000)] 0 [(0x2000, 0x44332211), (0x2004, 0x88776655)])) [(0, 0x4433)] 0 0x104 [] = true := by
  decide

/-- `LDRSB r0, [r1, #7]` (V6). -/
theorem test_step_ldrsbImm :
    ends (step (start false 0x100 0xE1D100D7 [(1, 0x2000)] 0 [(0x2000, 0x44332211), (0x2004, 0x88776655)])) [(0, 0xFFFFFF88)] 0 0x104 [] = true := by
  decide

/-- `LDRSH r0, [r1, #6]` (V6). -/
theorem test_step_ldrshImm :
    ends (step (start false 0x100 0xE1D100F6 [(1, 0x2000)] 0 [(0x2000, 0x44332211), (0x2004, 0x88776655)])) [(0, 0xFFFF8877)] 0 0x104 [] = true := by
  decide

/-- `STRH r0, [r1, #2]` (V6). -/
theorem test_step_strhImm :
    ends (step (start false 0x100 0xE1C100B2 [(0, 0xAABBCCDD), (1, 0x2000)] 0 [(0x2000, 0x44332211), (0x2004, 0x88776655)])) [] 0 0x104 [(0x2000, 0xCCDD2211)] = true := by
  decide

/-- `SWP r0, r1, [r2]` (V6). -/
theorem test_step_swp :
    ends (step (start false 0x100 0xE1020091 [(1, 0x55555555), (2, 0x2000)] 0 [(0x2000, 0x44332211), (0x2004, 0x88776655)])) [(0, 0x44332211)] 0 0x104 [(0x2000, 0x55555555)] = true := by
  decide

/-- `SWPB r0, r1, [r2]` (V6). -/
theorem test_step_swpb :
    ends (step (start false 0x100 0xE1420091 [(1, 0xAABBCCDD), (2, 0x2005)] 0 [(0x2000, 0x44332211), (0x2004, 0x88776655)])) [(0, 0x66)] 0 0x104 [(0x2004, 0x8877DD55)] = true := by
  decide

/-- `LDMIA r0!, r1, r2, r3` (V7). -/
theorem test_step_ldm :
    ends (step (start false 0x100 0xE8B0000E [(0, 0x2010)] 0 [(0x2000, 0xA0002000), (0x2004, 0xA0002004), (0x2008, 0xA0002008), (0x200C, 0xA000200C), (0x2010, 0xA0002010), (0x2014, 0xA0002014), (0x2018, 0xA0002018), (0x201C, 0xA000201C)])) [(0, 0x201C), (1, 0xA0002010), (2, 0xA0002014), (3, 0xA0002018)] 0 0x104 [] = true := by
  decide

/-- `STMIA r0!, r1, r2, r3` (V7). -/
theorem test_step_stm :
    ends (step (start false 0x100 0xE8A0000E [(0, 0x3000), (1, 0x11), (2, 0x22), (3, 0x33)] 0 [(0x2000, 0xA0002000), (0x2004, 0xA0002004), (0x2008, 0xA0002008), (0x200C, 0xA000200C), (0x2010, 0xA0002010), (0x2014, 0xA0002014), (0x2018, 0xA0002018), (0x201C, 0xA000201C)])) [(0, 0x300C)] 0 0x104 [(0x3000, 0x11), (0x3004, 0x22), (0x3008, 0x33)] = true := by
  decide

/-- `MRS r0, CPSR` (V8). -/
theorem test_step_mrs :
    ends (step (start false 0x100 0xE10F0000 [] 10 [])) [(0, 0xA00000D3)] 10 0x104 [] = true := by
  decide

/-- `MSR CPSR_c, r0` (V8). -/
theorem test_step_msrReg :
    ends (step (start false 0x100 0xE121F000 [(0, 0xF00000F3)] 0 [])) [] 0 0x104 [] = true := by
  decide

/-- `SWI 0` (V8). -/
theorem test_step_swi :
    ends (step (start false 0x100 0xEF000000 [(14, 0x777)] 0 [])) [(14, 0x104)] 0 8 [] = true := by
  decide

/-- `CDP p1, 0, c0, c0, c0, 0` (V8). -/
theorem test_step_cdp :
    ends (step (start false 0x100 0xEE000100 [(0, 0x2000)] 0 [])) [(0, 0x2000)] 0 0x104 [] = true := by
  decide

/-- `LDC p1, c0, [r0]` (V8). -/
theorem test_step_ldc :
    ends (step (start false 0x100 0xED900100 [(0, 0x2000)] 0 [])) [(0, 0x2000)] 0 0x104 [] = true := by
  decide

/-- `STC p1, c0, [r0, #4]!` (V8). -/
theorem test_step_stc :
    ends (step (start false 0x100 0xEDA00101 [(0, 0x2000)] 0 [])) [(0, 0x2000)] 0 0x104 [] = true := by
  decide

/-- `MCR p15, 0, r0, c0, c0, 0` (V8). -/
theorem test_step_mcr :
    ends (step (start false 0x100 0xEE000F10 [(0, 0x2000)] 0 [])) [(0, 0x2000)] 0 0x104 [] = true := by
  decide

/-- `MRC p15, 0, r0, c0, c0, 0` (V8). -/
theorem test_step_mrc :
    ends (step (start false 0x100 0xEE100F10 [(0, 0x2000)] 0 [])) [(0, 0x2000)] 0 0x104 [] = true := by
  decide

/-- `LSL r0, r1, #0` (V9). -/
theorem test_step_tLslImm :
    ends (step (start true 0x200 8 [(1, 0x80000000)] 2 [])) [(0, 0x80000000)] 10 0x202 [] = true := by
  decide

/-- `LSR r0, r1, #32` (V9). -/
theorem test_step_tLsrImm :
    ends (step (start true 0x200 0x808 [(1, 0x80000000)] 0 [])) [(0, 0)] 6 0x202 [] = true := by
  decide

/-- `ASR r0, r1, #32` (V9). -/
theorem test_step_tAsrImm :
    ends (step (start true 0x200 0x1008 [(1, 0x80000000)] 0 [])) [(0, 0xFFFFFFFF)] 10 0x202 [] = true := by
  decide

/-- `ADD r0, r1, r2` (V9). -/
theorem test_step_tAddReg :
    ends (step (start true 0x200 0x1888 [(1, 0x7FFFFFFF), (2, 1)] 0 [])) [(0, 0x80000000)] 9 0x202 [] = true := by
  decide

/-- `SUB r0, r1, r2` (V9). -/
theorem test_step_tSubReg :
    ends (step (start true 0x200 0x1A88 [(1, 5), (2, 7)] 0 [])) [(0, 0xFFFFFFFE)] 8 0x202 [] = true := by
  decide

/-- `ADD r0, r1, #7` (V9). -/
theorem test_step_tAddImm3 :
    ends (step (start true 0x200 0x1DC8 [(1, 0xFFFFFFF9)] 0 [])) [(0, 0)] 6 0x202 [] = true := by
  decide

/-- `SUB r0, r1, #1` (V9). -/
theorem test_step_tSubImm3 :
    ends (step (start true 0x200 0x1E48 [(1, 0x80000000)] 0 [])) [(0, 0x7FFFFFFF)] 3 0x202 [] = true := by
  decide

/-- `MOV r0, #0` (V9). -/
theorem test_step_tMovImm8 :
    ends (step (start true 0x200 0x2000 [(0, 5)] 11 [])) [(0, 0)] 7 0x202 [] = true := by
  decide

/-- `CMP r0, #5` (V9). -/
theorem test_step_tCmpImm8 :
    ends (step (start true 0x200 0x2805 [(0, 4)] 0 [])) [(0, 4)] 8 0x202 [] = true := by
  decide

/-- `ADD r0, #255` (V9). -/
theorem test_step_tAddImm8 :
    ends (step (start true 0x200 0x30FF [(0, 0xFFFFFF01)] 0 [])) [(0, 0)] 6 0x202 [] = true := by
  decide

/-- `SUB r0, #1` (V9). -/
theorem test_step_tSubImm8 :
    ends (step (start true 0x200 0x3801 [] 0 [])) [(0, 0xFFFFFFFF)] 8 0x202 [] = true := by
  decide

/-- `AND r0, r1` (V9). -/
theorem test_step_tAnd :
    ends (step (start true 0x200 0x4008 [(0, 0xF0F0F0F0), (1, 0xFF00FF0)] 3 [])) [(0, 0xF000F0)] 3 0x202 [] = true := by
  decide

/-- `EOR r0, r1` (V9). -/
theorem test_step_tEor :
    ends (step (start true 0x200 0x4048 [(0, 0xFFFFFFFF), (1, 0xFFFFFFFF)] 0 [])) [(0, 0)] 4 0x202 [] = true := by
  decide

/-- `LSL r0, r1` (V9). -/
theorem test_step_tLslReg :
    ends (step (start true 0x200 0x4088 [(0, 1), (1, 0x1F)] 0 [])) [(0, 0x80000000)] 8 0x202 [] = true := by
  decide

/-- `LSR r0, r1` (V9). -/
theorem test_step_tLsrReg :
    ends (step (start true 0x200 0x40C8 [(0, 0x80000000), (1, 0x20)] 0 [])) [(0, 0)] 6 0x202 [] = true := by
  decide

/-- `ASR r0, r1` (V9). -/
theorem test_step_tAsrReg :
    ends (step (start true 0x200 0x4108 [(0, 0x80000000), (1, 0x28)] 0 [])) [(0, 0xFFFFFFFF)] 10 0x202 [] = true := by
  decide

/-- `ADC r0, r1` (V9). -/
theorem test_step_tAdc :
    ends (step (start true 0x200 0x4148 [(0, 0xFFFFFFFF)] 2 [])) [(0, 0)] 6 0x202 [] = true := by
  decide

/-- `SBC r0, r1` (V9). -/
theorem test_step_tSbc :
    ends (step (start true 0x200 0x4188 [] 0 [])) [(0, 0xFFFFFFFF)] 8 0x202 [] = true := by
  decide

/-- `ROR r0, r1` (V9). -/
theorem test_step_tRor :
    ends (step (start true 0x200 0x41C8 [(0, 0x80000001), (1, 1)] 0 [])) [(0, 0xC0000000)] 10 0x202 [] = true := by
  decide

/-- `TST r0, r1` (V9). -/
theorem test_step_tTst :
    ends (step (start true 0x200 0x4208 [(0, 0xF), (1, 0xF0)] 2 [])) [(0, 0xF)] 6 0x202 [] = true := by
  decide

/-- `NEG r0, r1` (V9). -/
theorem test_step_tNeg :
    ends (step (start true 0x200 0x4248 [(1, 1)] 0 [])) [(0, 0xFFFFFFFF)] 8 0x202 [] = true := by
  decide

/-- `CMP r0, r1` (V9). -/
theorem test_step_tCmpReg :
    ends (step (start true 0x200 0x4288 [(0, 0x80000000), (1, 1)] 0 [])) [(0, 0x80000000)] 3 0x202 [] = true := by
  decide

/-- `CMN r0, r1` (V9). -/
theorem test_step_tCmn :
    ends (step (start true 0x200 0x42C8 [(0, 0x7FFFFFFF), (1, 1)] 0 [])) [(0, 0x7FFFFFFF)] 9 0x202 [] = true := by
  decide

/-- `ORR r0, r1` (V9). -/
theorem test_step_tOrr :
    ends (step (start true 0x200 0x4308 [(0, 0xF), (1, 0x80000000)] 0 [])) [(0, 0x8000000F)] 8 0x202 [] = true := by
  decide

/-- `MUL r0, r1` (V9). -/
theorem test_step_tMul :
    ends (step (start true 0x200 0x4348 [(0, 7), (1, 6)] 3 [])) [(0, 0x2A)] 3 0x202 [] = true := by
  decide

/-- `BIC r0, r1` (V9). -/
theorem test_step_tBic :
    ends (step (start true 0x200 0x4388 [(0, 0xFFFFFFFF), (1, 0xFFFF)] 0 [])) [(0, 0xFFFF0000)] 8 0x202 [] = true := by
  decide

/-- `MVN r0, r1` (V9). -/
theorem test_step_tMvn :
    ends (step (start true 0x200 0x43C8 [(1, 0xFFFFFFFF)] 0 [])) [(0, 0)] 4 0x202 [] = true := by
  decide

/-- `ADD r0, r8` (V9). -/
theorem test_step_tAddHi :
    ends (step (start true 0x200 0x4440 [(0, 1), (8, 0xFFFFFFFF)] 8 [])) [(0, 0)] 8 0x202 [] = true := by
  decide

/-- `CMP r0, r8` (V9). -/
theorem test_step_tCmpHi :
    ends (step (start true 0x200 0x4540 [(0, 5), (8, 5)] 0 [])) [] 6 0x202 [] = true := by
  decide

/-- `MOV r0, r8` (V9). -/
theorem test_step_tMovHi :
    ends (step (start true 0x200 0x4640 [(8, 0x80000000)] 4 [])) [(0, 0x80000000)] 4 0x202 [] = true := by
  decide

/-- `BX r1` (V9). -/
theorem test_step_tBx :
    ends (step (start true 0x200 0x4708 [(1, 0x400)] 0 [])) [] 0 0x400 [] = true := by
  decide

/-- `ADD r0, pc, #4` (V9). -/
theorem test_step_tAddPc :
    ends (step (start true 0x200 0xA001 [] 0 [])) [(0, 0x208)] 0 0x202 [] = true := by
  decide

/-- `ADD r0, sp, #4` (V9). -/
theorem test_step_tAddSp :
    ends (step (start true 0x200 0xA801 [(13, 0x3000)] 0 [])) [(0, 0x3004)] 0 0x202 [] = true := by
  decide

/-- `ADD sp, #8` (V9). -/
theorem test_step_tAddSpImm7 :
    ends (step (start true 0x200 0xB002 [(13, 0x3000)] 0 [])) [(13, 0x3008)] 0 0x202 [] = true := by
  decide

/-- `SUB sp, #8` (V9). -/
theorem test_step_tSubSpImm7 :
    ends (step (start true 0x200 0xB082 [(13, 0x3000)] 0 [])) [(13, 0x2FF8)] 0 0x202 [] = true := by
  decide

/-- `LDR r0, [pc, #4]` (V10). -/
theorem test_step_tLdrPc :
    ends (step (start true 0x200 0x4801 [] 0 [(0x208, 0xCAFEBABE), (0x2000, 0x44332211), (0x2004, 0x88776655)])) [(0, 0xCAFEBABE)] 0 0x202 [] = true := by
  decide

/-- `STR r0, [r1, r2]` (V10). -/
theorem test_step_tStrReg :
    ends (step (start true 0x200 0x5088 [(0, 0xAABBCCDD), (1, 0x2000), (2, 4)] 0 [(0x2000, 0x44332211), (0x2004, 0x88776655)])) [] 0 0x202 [(0x2004, 0xAABBCCDD)] = true := by
  decide

/-- `STRB r0, [r1, r2]` (V10). -/
theorem test_step_tStrbReg :
    ends (step (start true 0x200 0x5488 [(0, 0xAABBCCDD), (1, 0x2000), (2, 1)] 0 [(0x2000, 0x44332211), (0x2004, 0x88776655)])) [] 0 0x202 [(0x2000, 0x4433DD11)] = true := by
  decide

/-- `LDR r0, [r1, r2]` (V10). -/
theorem test_step_tLdrReg :
    ends (step (start true 0x200 0x5888 [(1, 0x2000), (2, 4)] 0 [(0x2000, 0x44332211), (0x2004, 0x88776655)])) [(0, 0x88776655)] 0 0x202 [] = true := by
  decide

/-- `LDRB r0, [r1, r2]` (V10). -/
theorem test_step_tLdrbReg :
    ends (step (start true 0x200 0x5C88 [(1, 0x2000), (2, 7)] 0 [(0x2000, 0x44332211), (0x2004, 0x88776655)])) [(0, 0x88)] 0 0x202 [] = true := by
  decide

/-- `STRH r0, [r1, r2]` (V10). -/
theorem test_step_tStrhReg :
    ends (step (start true 0x200 0x5288 [(0, 0xAABBCCDD), (1, 0x2000), (2, 6)] 0 [(0x2000, 0x44332211), (0x2004, 0x88776655)])) [] 0 0x202 [(0x2004, 0xCCDD6655)] = true := by
  decide

/-- `LDSB r0, [r1, r2]` (V10). -/
theorem test_step_tLdsb :
    ends (step (start true 0x200 0x5688 [(1, 0x2000), (2, 7)] 0 [(0x2000, 0x44332211), (0x2004, 0x88776655)])) [(0, 0xFFFFFF88)] 0 0x202 [] = true := by
  decide

/-- `LDRH r0, [r1, r2]` (V10). -/
theorem test_step_tLdrhReg :
    ends (step (start true 0x200 0x5A88 [(1, 0x2000), (2, 6)] 0 [(0x2000, 0x44332211), (0x2004, 0x88776655)])) [(0, 0x8877)] 0 0x202 [] = true := by
  decide

/-- `LDSH r0, [r1, r2]` (V10). -/
theorem test_step_tLdsh :
    ends (step (start true 0x200 0x5E88 [(1, 0x2000), (2, 6)] 0 [(0x2000, 0x44332211), (0x2004, 0x88776655)])) [(0, 0xFFFF8877)] 0 0x202 [] = true := by
  decide

/-- `STR r0, [r1, #4]` (V10). -/
theorem test_step_tStrImm :
    ends (step (start true 0x200 0x6048 [(0, 0xAABBCCDD), (1, 0x2000)] 0 [(0x2000, 0x44332211), (0x2004, 0x88776655)])) [] 0 0x202 [(0x2004, 0xAABBCCDD)] = true := by
  decide

/-- `LDR r0, [r1, #4]` (V10). -/
theorem test_step_tLdrImm :
    ends (step (start true 0x200 0x6848 [(1, 0x2000)] 0 [(0x2000, 0x44332211), (0x2004, 0x88776655)])) [(0, 0x88776655)] 0 0x202 [] = true := by
  decide

/-- `STRB r0, [r1, #1]` (V10). -/
theorem test_step_tStrbImm :
    ends (step (start true 0x200 0x7048 [(0, 0xAABBCCDD), (1, 0x2000)] 0 [(0x2000, 0x44332211), (0x2004, 0x88776655)])) [] 0 0x202 [(0x2000, 0x4433DD11)] = true := by
  decide

/-- `LDRB r0, [r1, #31]` (V10). -/
theorem test_step_tLdrbImm :
    ends (step (start true 0x200 0x7FC8 [(1, 0x1FE8)] 0 [(0x2000, 0x44332211), (0x2004, 0x88776655)])) [(0, 0x88)] 0 0x202 [] = true := by
  decide

/-- `STRH r0, [r1, #2]` (V10). -/
theorem test_step_tStrhImm :
    ends (step (start true 0x200 0x8048 [(0, 0xAABBCCDD), (1, 0x2000)] 0 [(0x2000, 0x44332211), (0x2004, 0x88776655)])) [] 0 0x202 [(0x2000, 0xCCDD2211)] = true := by
  decide

/-- `LDRH r0, [r1, #62]` (V10). -/
theorem test_step_tLdrhImm :
    ends (step (start true 0x200 0x8FC8 [(1, 0x1FC8)] 0 [(0x2000, 0x44332211), (0x2004, 0x88776655)])) [(0, 0x8877)] 0 0x202 [] = true := by
  decide

/-- `STR r0, [sp, #4]` (V10). -/
theorem test_step_tStrSp :
    ends (step (start true 0x200 0x9001 [(0, 0xAABBCCDD), (13, 0x2000)] 0 [(0x2000, 0x44332211), (0x2004, 0x88776655)])) [] 0 0x202 [(0x2004, 0xAABBCCDD)] = true := by
  decide

/-- `LDR r0, [sp, #1020]` (V10). -/
theorem test_step_tLdrSp :
    ends (step (start true 0x200 0x98FF [(13, 0x1C08)] 0 [(0x2000, 0x44332211), (0x2004, 0x88776655)])) [(0, 0x88776655)] 0 0x202 [] = true := by
  decide

/-- `PUSH r0, r1` (V10). -/
theorem test_step_tPush :
    ends (step (start true 0x200 0xB403 [(0, 0x11), (1, 0x22), (13, 0x3008)] 0 [(0x2000, 0xA0002000), (0x2004, 0xA0002004), (0x2008, 0xA0002008), (0x200C, 0xA000200C), (0x2010, 0xA0002010), (0x2014, 0xA0002014), (0x2018, 0xA0002018), (0x201C, 0xA000201C)])) [(13, 0x3000)] 0 0x202 [(0x3000, 0x11), (0x3004, 0x22)] = true := by
  decide

/-- `POP r0, r1` (V10). -/
theorem test_step_tPop :
    ends (step (start true 0x200 0xBC03 [(13, 0x2000)] 0 [(0x2000, 0xA0002000), (0x2004, 0xA0002004), (0x2008, 0xA0002008), (0x200C, 0xA000200C), (0x2010, 0xA0002010), (0x2014, 0xA0002014), (0x2018, 0xA0002018), (0x201C, 0xA000201C)])) [(0, 0xA0002000), (1, 0xA0002004), (13, 0x2008)] 0 0x202 [] = true := by
  decide

/-- `STMIA r0!, r1, r2` (V10). -/
theorem test_step_tStmia :
    ends (step (start true 0x200 0xC006 [(0, 0x3000), (1, 0x11), (2, 0x22)] 0 [(0x2000, 0xA0002000), (0x2004, 0xA0002004), (0x2008, 0xA0002008), (0x200C, 0xA000200C), (0x2010, 0xA0002010), (0x2014, 0xA0002014), (0x2018, 0xA0002018), (0x201C, 0xA000201C)])) [(0, 0x3008)] 0 0x202 [(0x3000, 0x11), (0x3004, 0x22)] = true := by
  decide

/-- `LDMIA r0!, r1, r2` (V10). -/
theorem test_step_tLdmia :
    ends (step (start true 0x200 0xC806 [(0, 0x2000)] 0 [(0x2000, 0xA0002000), (0x2004, 0xA0002004), (0x2008, 0xA0002008), (0x200C, 0xA000200C), (0x2010, 0xA0002010), (0x2014, 0xA0002014), (0x2018, 0xA0002018), (0x201C, 0xA000201C)])) [(0, 0x2008), (1, 0xA0002000), (2, 0xA0002004)] 0 0x202 [] = true := by
  decide

/-- `BEQ 0x204` (V10). -/
theorem test_step_tBeq :
    ends (step (start true 0x200 0xD000 [] 4 [])) [] 4 0x204 [] = true := by
  decide

/-- `B 0x204` (V10). -/
theorem test_step_tB :
    ends (step (start true 0x200 0xE000 [] 0 [])) [] 0 0x204 [] = true := by
  decide

/-- `BL first half, offset11 = 0` (V10). -/
theorem test_step_tBlHi :
    ends (step (start true 0x200 0xF000 [] 0 [])) [(14, 0x204)] 0 0x202 [] = true := by
  decide

/-- `BL second half, offset11 = 0` (V10). -/
theorem test_step_tBlLo :
    ends (step (start true 0x200 0xF800 [(14, 0x204)] 0 [])) [(14, 0x203)] 0 0x204 [] = true := by
  decide

/-! ## Stops -/

/-- R331: an illegal word faults whatever its condition field says (V8). -/
theorem test_step_illegal :
    (match step (start false 0x100 0x07F000F0 [] 0 []) with
     | .fault (.illegalInstruction w l) => w == 0x07F000F0#32 && l.pc == 0x108#32
     | _ => false) = true := by decide

/-- R315, R35: `MRS r0, SPSR` in System mode. -/
theorem test_mrs_noSpsr :
    (match exec (.mrs ⟨.al, true, 0#4⟩) { State.reset with mode := .sys } with
     | .fault (.invariantViolation .noSpsr _) => true
     | _ => false) = true := by decide

/-- R318, R36: `MSR CPSR_c, #0` in Supervisor mode. -/
theorem test_msr_badMode :
    (match exec (.msrImm ⟨.al, false, ⟨false, false, false, true⟩, 0#4, 0x14#8⟩) State.reset with
     | .fault (.invariantViolation .badMode _) => true
     | _ => false) = true := by decide

/-- R309: `STMDB r0, {}` (V7). -/
theorem test_stm_empty :
    (match exec (.stm ⟨.al, true, false, false, false, 0#4, 0#16⟩) State.reset with
     | .refused .emptyRegisterList => true
     | _ => false) = true := by decide

/-! ## Exceptions, banks and the shifter -/

/-- E9, R444: the source's scenario 4, in ARM state. -/
theorem test_interrupt_arm :
    (let s : State := { State.reset with mode := .usr, z := true, c := true, i := false, f := false }.setPc 0x08000104#32
     let t := s.raiseInterrupt
     t.mode = .irq ∧ t.spsr = 0x60000010#32 ∧ t.reg 14#4 = 0x08000104#32 ∧ t.pc = 0x1C#32 ∧ t.packStatus = 0x60000092#32) := by
  decide

/-- E9, R444: the same in Thumb state. -/
theorem test_interrupt_thumb :
    (let s : State :=
      { State.reset with mode := .usr, z := true, c := true, i := false, f := false, t := true }.setPc 0x08000102#32
     s.raiseInterrupt.spsr = 0x60000030#32 ∧ s.raiseInterrupt.reg 14#4 = 0x08000104#32) := by decide

/-- E3: switching to the current mode changes nothing. -/
theorem test_switchMode_same :
    (let s : State := { (State.reset.setReg 13#4 0x500D#32).setReg 14#4 0x500E#32 with spsr := 0x5555#32 }
     s.switchMode 0x13#5 = some s) := by decide

/-- E2: the source's two printed values, and LSL by 32 as 90_conflicts.md C1 reads it. -/
theorem test_shifter_printed :
    shiftLsl 0xFFFFFFFF#32 32 false = ⟨0#32, true⟩ ∧ shiftAsr 0x80000000#32 40 false = ⟨0xFFFFFFFF#32, true⟩ ∧
    shiftLsl 1#32 32 false = ⟨0#32, true⟩ ∧ shiftLsl 0x80000000#32 32 true = ⟨0#32, false⟩ ∧
    shiftRor 0x80000000#32 33 false = ⟨0x40000000#32, false⟩ := by decide

/-- R481: what reset leaves. -/
theorem test_reset : State.reset.pc = 4#32 ∧ State.reset.packStatus = 0xD3#32 ∧ State.reset.mode = .svc := by decide

/-! ## Witnesses: for every statement with hypotheses, a state and operands that meet all of them -/

/-- A machine in User mode at a given place, with given memory. -/
def placed (m : List Host.Cell) (thumb : Bool) (pc : Word) : State :=
  { State.reset with mem := m, t := thumb, mode := .usr }.setPc pc

theorem placed_inv {m : List Host.Cell} (thumb : Bool) {pc : Word} (hm : Memory.wf m) (hp : pc.getLsbD 0 = false) :
    (placed m thumb pc).Inv where
  memory := hm
  armCache := ⟨List.Pairwise.nil, fun _ h => nomatch h⟩
  thumbCache := ⟨List.Pairwise.nil, fun _ h => nomatch h⟩
  coherent := ⟨fun _ h => (nomatch h), fun _ h => (nomatch h)⟩
  reserved := by
    have zero : statusReservedClear 0#32 = true := by decide
    exact ⟨zero, fun b => by cases b <;> exact zero⟩
  pcEven := by rw [placed, State.pc_setPc]; exact hp

/-- `B .` at address 0: 0xEAFFFFFE. -/
def branchCode : List Host.Cell := [(0, 0xFE#8), (1, 0xFF#8), (2, 0xFF#8), (3, 0xEA#8)]

/-- `SWI 0` at address 0: 0xEF000000. -/
def swiCode : List Host.Cell := [(3, 0xEF#8)]

/-- An illegal word at address 0: 0xE7F000F0. -/
def illegalCode : List Host.Cell := [(0, 0xF0#8), (2, 0xF0#8), (3, 0xE7#8)]

/-- An illegal halfword at the highest even address: 0xDE00. -/
def illegalThumb : List Host.Cell := [(0xFFFFFFFF, 0xDE#8)]

theorem witness_DecodeEncode : (Instr.ldrtReg ⟨.nv, true, true, 15#4, 15#4, 31#5, .ror, 15#4⟩).wellFormed = true := by decide

theorem witness_EncodeDecode : decode (.arm 0xF6BFFFEF#32) =
    some (.ldrtReg ⟨.nv, true, true, 15#4, 15#4, 31#5, .ror, 15#4⟩) := by decide

theorem witness_RowsMatchExactly :
    (Instr.movImm ⟨.al, false, 0#4, 0#4, 0#4, 5#8⟩).tableRow.matches (.arm 0xE3A00005#32) = true ∧
    decode (.arm 0xE3A00005#32) = some (.movImm ⟨.al, false, 0#4, 0#4, 0#4, 5#8⟩) ∧
    decode (.arm 0xE7F000F0#32) = none := by decide

theorem witness_StepRunsDecodedInstruction_arm :
    (placed branchCode false 4#32).Inv ∧
    decodeBytes (placed branchCode false 4#32).execState (fetchedBytes (placed branchCode false 4#32)) =
      .ok (.b ⟨.al, 0xFFFFFE#24⟩, []) :=
  ⟨placed_inv _ (by decide) (by decide), by decide⟩

theorem witness_StepRunsDecodedInstruction_thumb :
    (placed [] true 0#32).Inv ∧
    decodeBytes (placed [] true 0#32).execState (fetchedBytes (placed [] true 0#32)) =
      .ok (.tLslImm ⟨0#5, 0#4, 0#4⟩, []) :=
  ⟨placed_inv _ (by decide) (by decide), by decide⟩

theorem witness_UndecodableWordFaults_arm :
    (placed illegalCode false 4#32).Inv ∧
    decodeBytes (placed illegalCode false 4#32).execState (fetchedBytes (placed illegalCode false 4#32)) =
      .error (.illegal .arm 0xE7F000F0#32) :=
  ⟨placed_inv _ (by decide) (by decide), by decide⟩

theorem witness_UndecodableWordFaults_thumb :
    (placed illegalThumb true 0#32).Inv ∧
    decodeBytes (placed illegalThumb true 0#32).execState (fetchedBytes (placed illegalThumb true 0#32)) =
      .error (.illegal .thumb 0x0000DE00#32) :=
  ⟨placed_inv _ (by decide) (by decide), by decide⟩

theorem witness_WritePcPath :
    State.reset.condPassed = true ∧ { State.reset with condPassed := false }.condPassed = false := ⟨rfl, rfl⟩

/-- A step that writes the PC, from a state that meets the invariant. -/
theorem witness_PcAfterStep : (placed branchCode false 4#32).Inv ∧ ∃ t, step (placed branchCode false 4#32) = .next t :=
  ⟨placed_inv _ (by decide) (by decide), _, rfl⟩

/-- A step whose instruction cannot write the PC: 0x00000000 is `ANDEQ r0, r0, r0`. -/
theorem witness_PcAfterStep_sequential : (placed [] false 0#32).Inv ∧ ∃ t, step (placed [] false 0#32) = .next t :=
  ⟨placed_inv _ (by decide) (by decide), _, rfl⟩

theorem witness_FailedConditionDoesNothing :
    condition (.b ⟨.eq, 0#24⟩) = some .eq ∧ condition (.tBeq 0#8) = some .eq ∧ ¬ Holds State.reset .eq :=
  ⟨rfl, rfl, fun h => by cases h⟩

theorem witness_StopsExactly_empty :
    Passes (.stm ⟨.al, true, true, false, false, 0#4, 0#16⟩) State.reset ∧
    EmptyList (.stm ⟨.al, true, true, false, false, 0#4, 0#16⟩) :=
  ⟨fun _ h => (by cases h; trivial), .inl ⟨_, .inr rfl, rfl⟩⟩

theorem witness_StopsExactly_noSpsr :
    Passes (.mrs ⟨.al, true, 0#4⟩) (placed [] false 4#32) ∧ ¬ EmptyList (.mrs ⟨.al, true, 0#4⟩) ∧
    UsesSavedStatus (.mrs ⟨.al, true, 0#4⟩) ∧ (placed [] false 4#32).mode = .usr :=
  ⟨fun _ h => (by cases h; trivial), (by rintro (⟨f, h | h, -⟩ | ⟨f, h | h, -⟩ | ⟨f, h | h, -⟩) <;> cases h),
    .inl ⟨_, rfl, rfl⟩, rfl⟩

/-- An exception return in Supervisor mode: saved status 0 holds an illegal mode number, 0x10 User mode's. -/
theorem witness_StopsExactly_return :
    Passes (.movRegImm ⟨.al, true, 0#4, 15#4, 0#5, .lsl, 14#4⟩) State.reset ∧
    UsesSavedStatus (.movRegImm ⟨.al, true, 0#4, 15#4, 0#5, .lsl, 14#4⟩) ∧
    SwitchesTo (.movRegImm ⟨.al, true, 0#4, 15#4, 0#5, .lsl, 14#4⟩) State.reset 0#5 ∧ (∀ m, modeNumber m ≠ 0#5) ∧
    SwitchesTo (.movRegImm ⟨.al, true, 0#4, 15#4, 0#5, .lsl, 14#4⟩) { State.reset with spsr := 0x10#32 } 0x10#5 ∧
    modeNumber .usr = 0x10#5 := by
  have row : DpRow (.movRegImm ⟨.al, true, 0#4, 15#4, 0#5, .lsl, 14#4⟩) .mov .al true 0#4 15#4 (.regImm 14#4 .lsl 0#5) :=
    DpRow.regImm .mov ⟨.al, true, 0#4, 15#4, 0#5, .lsl, 14#4⟩
  have ret : ReturnsFromException (.movRegImm ⟨.al, true, 0#4, 15#4, 0#5, .lsl, 14#4⟩) :=
    .inl ⟨_, _, _, _, row, rfl⟩
  exact ⟨fun _ h => (by cases h; trivial), .inr (.inr ret), .inr ⟨ret, rfl⟩, fun m => by cases m <;> decide, .inr ⟨ret, rfl⟩, rfl⟩

theorem witness_StateLeftByFault_noSpsr :
    ∃ l, exec (.mrs ⟨.al, true, 0#4⟩) (placed [] false 4#32) = .fault (.invariantViolation .noSpsr l) := ⟨_, rfl⟩

theorem witness_StateLeftByFault_badMode :
    ∃ l, exec (.msrImm ⟨.al, false, ⟨false, false, false, true⟩, 0#4, 0#8⟩) State.reset =
      .fault (.invariantViolation .badMode l) := ⟨_, rfl⟩

/-- `LDMIA r0!, {r1, pc}^` with saved status 0. -/
theorem witness_StateLeftByFault_ldm :
    ∃ l, exec (.ldm ⟨.al, false, true, true, true, 0#4, 0x8002#16⟩) State.reset =
      .fault (.invariantViolation .badMode l) := ⟨_, rfl⟩

/-- The two clauses on what data processing has charged: `MOVS pc, r14, LSL r0` faults in User mode and, with saved status
0, in Supervisor mode. -/
theorem witness_StateLeftByFault_dataProcessing :
    DpRow (.movRegReg ⟨.al, true, 0#4, 15#4, 0#4, .lsl, 14#4⟩) .mov .al true 0#4 15#4 (.regReg 14#4 .lsl 0#4) ∧
    (∃ l, exec (.movRegReg ⟨.al, true, 0#4, 15#4, 0#4, .lsl, 14#4⟩) (placed [] false 4#32) =
      .fault (.invariantViolation .noSpsr l)) ∧
    ∃ l, exec (.movRegReg ⟨.al, true, 0#4, 15#4, 0#4, .lsl, 14#4⟩) State.reset =
      .fault (.invariantViolation .badMode l) :=
  ⟨DpRow.regReg .mov ⟨.al, true, 0#4, 15#4, 0#4, .lsl, 14#4⟩, ⟨_, rfl⟩, _, rfl⟩

/-- The clause on the others: MRS is no data-processing row, so the first witness of this statement meets it. -/
theorem witness_StateLeftByFault_other {f : MrsForm} {op : DpOp} {c : Cond} {set : Bool} {rn rd : Reg} {form : Operand2}
    (h : DpRow (.mrs f) op c set rn rd form) : False := by
  generalize e : Instr.mrs f = i at h
  cases h <;> cases op <;> cases e

/-- No row of the tables is the 16-bit first half of BL. -/
theorem witness_OnlyListedInstructionsWrite :
    (∃ t, exec (.tBlHi 0#11) State.reset = .next t) ∧ ¬ CoprocessorRow (.tBlHi 0#11) ∧
    (Instr.tBlHi 0#11).wellFormed = true ∧ (Instr.tBlHi 0#11).writesPC = false :=
  ⟨⟨_, rfl⟩, (fun h => nomatch h), rfl, rfl⟩

theorem noDpRow_tBlHi {o : BitVec 11} {op : DpOp} {c : Cond} {set : Bool} {rn rd : Reg} {form : Operand2}
    (h : DpRow (.tBlHi o) op c set rn rd form) : False := by
  generalize e : Instr.tBlHi o = i at h
  cases h <;> cases op <;> cases e

theorem noReturn_tBlHi (o : BitVec 11) : ¬ ReturnsFromException (.tBlHi o) := by
  rintro (⟨_, _, _, _, h, -⟩ | ⟨_, h, -⟩)
  · exact noDpRow_tBlHi h
  · cases h

theorem witness_OnlyListedInstructionsWrite_tables :
    ¬ WritesFlags (.tBlHi 0#11) ∧ ¬ WritesMemory (.tBlHi 0#11) ∧ ¬ WritesControl (.tBlHi 0#11) ∧
    ¬ WritesThumbBit (.tBlHi 0#11) := by
  refine ⟨?_, ?_, ?_, ?_⟩
  · rintro (⟨_, _, _, _, _, h⟩ | ⟨_, _, _, _, _, _, h, -⟩ | ⟨_, _, _, _, _, _, _, h, -⟩ | ⟨_, _, _, h, -⟩ |
      ⟨_, _, _, h, -⟩ | ⟨_, _, _, _, _, _, h⟩ | h)
    · exact noDpRow_tBlHi h
    · exact noDpRow_tBlHi h
    · cases h
    · cases h
    · generalize e : Instr.tBlHi 0#11 = i at h
      generalize false = r at h
      cases h <;> cases e
    · cases h
    · exact noReturn_tBlHi _ h
  · rintro (⟨_, _, h⟩ | ⟨_, _, _, h⟩ | ⟨_, h | h⟩ | ⟨_, h⟩ | ⟨_, h⟩ | ⟨_, h⟩) <;> cases h
  · rintro (⟨_, _, _, h, -⟩ | h | ⟨_, h⟩)
    · generalize e : Instr.tBlHi 0#11 = i at h
      generalize false = r at h
      cases h <;> cases e
    · exact noReturn_tBlHi _ h
    · cases h
  · rintro (⟨_, _, h⟩ | h | ⟨_, h⟩)
    · cases h
    · exact noReturn_tBlHi _ h
    · cases h

/-- User mode: an instruction that stays in it. -/
theorem witness_UserModeIsOneWay_stays :
    (placed [] false 4#32).Inv ∧ (placed [] false 4#32).mode = .usr ∧ ∃ t, step (placed [] false 4#32) = .next t :=
  ⟨placed_inv _ (by decide) (by decide), rfl, _, rfl⟩

/-- User mode: the software interrupt. -/
theorem witness_UserModeIsOneWay_swi :
    (placed swiCode false 4#32).Inv ∧ (placed swiCode false 4#32).mode = .usr ∧
    ∃ t, step (placed swiCode false 4#32) = .next t ∧ t.mode = .svc :=
  ⟨placed_inv _ (by decide) (by decide), rfl, _, rfl, rfl⟩

theorem witness_StepKeepsInvariant :
    (placed swiCode false 4#32).Inv ∧ ∃ t, step (placed swiCode false 4#32) = .next t :=
  ⟨placed_inv _ (by decide) (by decide), _, rfl⟩

theorem witness_EventsKeepInvariant :
    (placed [] false 4#32).Inv ∧ (∃ t, react (.reset 0x08000000#32) (placed [] false 4#32) = .next t) ∧
    (∃ t, react .raiseInterrupt (placed [] false 4#32) = .next t) ∧
    (∃ t, react (.externalWrite 0xFFFFFFFF#32 [1#8, 2#8]) (placed [] false 4#32) = .next t) ∧
    (∃ t, react (.load State.reset.persist) (placed [] false 4#32) = .next t) :=
  ⟨placed_inv _ (by decide) (by decide), ⟨_, rfl⟩, ⟨_, rfl⟩, ⟨_, rfl⟩, ⟨_, rfl⟩⟩

/-- The clauses on a fault: a step that faults, and the events that leave a machine faulted or make it live again. -/
theorem witness_EventsKeepInvariant_fault :
    (placed illegalCode false 4#32).Inv ∧ (∃ f, react .step (placed illegalCode false 4#32) = .fault f) ∧
    Memory.wf (Fault.illegalInstruction 0#32 (placed illegalCode false 4#32)).left.mem ∧
    (∃ f, reactFaulted (.externalWrite 0#32 [1#8]) (.illegalInstruction 0#32 (placed illegalCode false 4#32)) = .fault f) ∧
    (∃ t, reactFaulted (.reset 0#32) (.illegalInstruction 0#32 (placed illegalCode false 4#32)) = .next t) ∧
    (∃ t, reactFaulted (.load State.reset.persist) (.illegalInstruction 0#32 (placed illegalCode false 4#32)) = .next t) :=
  ⟨placed_inv _ (by decide) (by decide), ⟨_, rfl⟩, (by decide : Memory.wf illegalCode), ⟨_, rfl⟩, ⟨_, rfl⟩, ⟨_, rfl⟩⟩

/-- A faulted machine, other memory written, reset, stepped: `B .` where the illegal word stood. -/
theorem test_reset_clears_fault :
    (match reactAll [.step, .externalWrite 0#32 [0xFE#8, 0xFF#8, 0xFF#8, 0xEA#8], .reset 0#32, .step]
        (placed illegalCode false 4#32) with
      | .next t => t.pc == 4#32 && t.mode == .svc && t.byteAt 0#32 == 0xFE#8
      | .fault _ => false
      | .refused _ => false) = true := by decide

/-- U27: a run that steps a faulted machine is refused, and a reset after that does not bring it back. -/
theorem test_step_after_fault_refused :
    (match reactAll [.step, .step, .reset 0#32] (placed illegalCode false 4#32) with
      | .next _ => false
      | .fault _ => false
      | .refused c => c == .faultedMachine) = true := by decide

/-- Two states that differ in the hidden fields alone. -/
theorem witness_HiddenStateIsUnobservable :
    (placed branchCode false 4#32).Inv ∧
    { placed branchCode false 4#32 with cycles := 5, fetchNonSeq := false, condPassed := false }.Inv ∧
    SameVisible (placed branchCode false 4#32)
      { placed branchCode false 4#32 with cycles := 5, fetchNonSeq := false, condPassed := false } := by
  have h := placed_inv (m := branchCode) false (pc := 4#32) (by decide) (by decide)
  exact ⟨h, ⟨h.1, h.2, h.3, h.4, h.5, h.6⟩,
    ⟨rfl, ⟨rfl, rfl, rfl, rfl⟩, ⟨rfl, rfl, rfl, rfl⟩, ⟨rfl, rfl, rfl⟩, rfl, rfl⟩⟩

theorem witness_CyclesNeverDecrease : ∃ t, exec (.tB 0#11) State.reset = .next t := ⟨_, rfl⟩

theorem witness_UnpackStatusLoads :
    (∀ m, modeNumber m ≠ (0x0000001E#32).extractLsb' 0 5) ∧ modeNumber .sys = (0xFFFFFFFF#32).extractLsb' 0 5 ∧
    0x0FFFFF1F#32 &&& 0xF00000FF#32 = 0x0000001F#32 &&& 0xF00000FF#32 :=
  ⟨fun m => by cases m <;> decide, by decide, by decide⟩

theorem witness_SwitchModeRules :
    (∀ m, modeNumber m ≠ 0b11110#5) ∧ modeNumber .sys = 0b11111#5 ∧ modeNumber .svc = 0b10011#5 ∧
    Mode.sys.bank = (placed [] false 4#32).mode.bank ∧
    Mode.irq.bank ≠ (placed [] false 4#32).mode.bank ∧ Mode.irq ≠ .fiq ∧ (placed [] false 4#32).mode ≠ .fiq ∧
    Mode.fiq.bank ≠ (placed [] false 4#32).mode.bank ∧ HighBank.fiq ≠ highSet (placed [] false 4#32).mode := by
  refine ⟨fun m => by cases m <;> decide, ?_⟩
  decide

theorem witness_RegisterViewByMode :
    SamePhysical .irq .svc 12#4 ∧ ¬ SamePhysical .fiq .svc 12#4 ∧ SamePhysical .usr .sys 13#4 ∧
    ¬ SamePhysical .irq .svc 14#4 ∧ ¬ SamePhysical .fiq .usr 8#4 ∧ SamePhysical .fiq .usr 7#4 := by
  refine ⟨?_, ?_, ?_, ?_, ?_, ?_⟩ <;> simp [SamePhysical, Mode.bank]

theorem witness_StoreThenLoad : 0xFFFFFFFC#32 &&& 3#32 = 0#32 := by decide

theorem witness_LoadLanes :
    0xFFFFFFFC#32 &&& 3#32 = 0#32 ∧ 0xFFFFFFFE#32 &&& 1#32 = 0#32 ∧ 0xFFFFFFFF#32 &&& 1#32 = 1#32 := by decide

theorem witness_InterruptEntry : State.reset.i = true ∧ { State.reset with i := false }.i = false := ⟨rfl, rfl⟩

/-- The state an interrupt left, with no handler in between. -/
theorem witness_InterruptReturnRestores :
    let s : State := { placed [] true 0x202#32 with i := false }
    let h := s.raiseInterrupt
    s.pc.getLsbD 0 = false ∧ h.mode = .irq ∧ h.spsr = s.packStatus ∧
      h.reg 14#4 = s.pc - (if s.t then 2#32 else 4#32) + 4#32 ∧ h.condPassed = true := by decide

theorem witness_ResetProcedure :
    0xFFFFFFFC#32 &&& 3#32 = 0#32 ∧ (Fault.illegalInstruction 0#32 State.reset).left = State.reset := ⟨by decide, rfl⟩

theorem witness_SoftwareInterrupt :
    SwiRow (.swi ⟨.al, 0xFFFFFF#24⟩) (some .al) ∧ HoldsOpt State.reset (some .al) ∧ SwiRow (.tSwi 0xFF#8) none ∧
    HoldsOpt State.reset none := ⟨.swi _, trivial, .tSwi _, trivial⟩

/-- `ADDS r14, pc, pc, LSL r15`. -/
theorem witness_DataProcessingWrites :
    DpRow (.addRegReg ⟨.al, true, 15#4, 14#4, 15#4, .lsl, 15#4⟩) .add .al true 15#4 14#4 (.regReg 15#4 .lsl 15#4) ∧
    isTest .add = false ∧ (14#4 : Reg) ≠ 15#4 ∧ Holds State.reset .al :=
  ⟨DpRow.regReg .add ⟨.al, true, 15#4, 14#4, 15#4, .lsl, 15#4⟩, rfl, by decide, trivial⟩

theorem witness_TestsSetFlagsOnly :
    DpRow (.cmpImm ⟨.ne, true, 1#4, 15#4, 15#4, 0xFF#8⟩) .cmp .ne true 1#4 15#4 (.imm 15#4 0xFF#8) ∧
    isTest .cmp = true ∧ Holds State.reset .ne :=
  ⟨DpRow.imm .cmp ⟨.ne, true, 1#4, 15#4, 15#4, 0xFF#8⟩, rfl, rfl⟩

theorem witness_DataProcessingJumps :
    DpRow (.movRegImm ⟨.al, false, 0#4, 15#4, 0#5, .lsl, 14#4⟩) .mov .al false 0#4 15#4 (.regImm 14#4 .lsl 0#5) ∧
    isTest .mov = false ∧ Holds State.reset .al :=
  ⟨DpRow.regImm .mov ⟨.al, false, 0#4, 15#4, 0#5, .lsl, 14#4⟩, rfl, trivial⟩

theorem witness_DataProcessingReturns :
    DpRow (.subImm ⟨.al, true, 14#4, 15#4, 0#4, 4#8⟩) .sub .al true 14#4 15#4 (.imm 0#4 4#8) ∧
    isTest .sub = false ∧ Holds { State.reset with spsr := 0x30#32 } .al ∧
    { State.reset with spsr := 0x30#32 }.mode ≠ .usr ∧ { State.reset with spsr := 0x30#32 }.mode ≠ .sys ∧
    modeNumber .usr = (0x30#32).extractLsb' 0 5 :=
  ⟨DpRow.imm .sub ⟨.al, true, 14#4, 15#4, 0#4, 4#8⟩, rfl, trivial, by decide, by decide, by decide⟩

theorem witness_Multiplies :
    MulRow (.mla ⟨.al, true, 1#4, 2#4, 3#4, 1#4⟩) (some .al) true 1#4 1#4 3#4 (fun s => (s.reg 2#4).toNat) 1 ∧
    HoldsOpt State.reset (some .al) ∧ HoldsOpt State.reset none := ⟨.mla _, trivial, trivial⟩

/-- RdHi = RdLo. -/
theorem witness_LongMultiplies :
    MulLongRow (.smull ⟨.al, true, 1#4, 1#4, 2#4, 3#4⟩) ⟨.al, true, 1#4, 1#4, 2#4, 3#4⟩
      (fun s => (s.reg 3#4).toInt * (s.reg 2#4).toInt) (fun s => multiplierCyclesSigned (s.reg 2#4) + 1) ∧
    Holds State.reset .al := ⟨.smull _, trivial⟩

theorem witness_Branches :
    BranchRow (.b ⟨.al, 0x800000#24⟩) (some .al) (4 * (0x800000#24).toInt) ∧ BranchRow (.tBne 0x80#8) (some .ne) (2 * (0x80#8).toInt) ∧
    HoldsOpt State.reset (some .al) ∧ HoldsOpt State.reset (some .ne) ∧ ExchangeRow (.bx ⟨.al, 15#4⟩) (some .al) 15#4 ∧
    ExchangeRow (.tBx ⟨15#4⟩) none 15#4 ∧ HoldsOpt State.reset none := ⟨.b _, .ne _, trivial, rfl, .bx _, .tBx _, trivial⟩

theorem witness_LinkBranches : Holds State.reset .al := trivial

/-- `LDR r0, [r0], #4`: the loaded value wins. -/
theorem witness_SingleLoads :
    LoadRow (.ldrImmPost ⟨.al, true, false, 0#4, 0#4, 4#12⟩) .word (sdtImm false ⟨.al, true, false, 0#4, 0#4, 4#12⟩) ∧
    Holds State.reset .al ∧ (sdtImm false ⟨.al, true, false, 1#4, 0#4, 4#12⟩).Wback := ⟨.ldrImmPost _, trivial, .inl rfl⟩

theorem witness_SingleStores :
    StoreRow (.strhImm ⟨.al, true, false, true, 15#4, 15#4, 15#4, 15#4⟩) .half
      (hdtImm ⟨.al, true, false, true, 15#4, 15#4, 15#4, 15#4⟩) ∧
    Holds State.reset .al ∧ (hdtImm ⟨.al, true, false, true, 15#4, 15#4, 15#4, 15#4⟩).Wback :=
  ⟨.strhImm _, trivial, .inr rfl⟩

theorem witness_Swaps : Holds State.reset (SwpForm.mk .al 0#4 0#4 0#4).cond := trivial

/-- `LDMIA r1!, {r0, pc}`: the base is not in the list. -/
theorem witness_LoadMultiple :
    let f : BdtForm := ⟨.al, false, true, false, true, 1#4, 0x8001#16⟩
    Holds State.reset f.cond ∧ f.rlist ≠ 0#16 ∧ f.s = false ∧ f.w = true ∧ InList f.rlist 15#4 ∧ ¬ InList f.rlist f.rn := by
  refine ⟨trivial, by decide, rfl, rfl, rfl, ?_⟩
  unfold InList
  decide

/-- `LDMIB r13!, {r13}^` in Supervisor mode: the listed register is User mode's, the base Supervisor's. -/
theorem witness_LoadMultipleUserBank :
    let f : BdtForm := ⟨.al, true, true, true, true, 13#4, 0x2000#16⟩
    Holds State.reset f.cond ∧ f.rlist ≠ 0#16 ∧ f.s = true ∧ ¬ InList f.rlist 15#4 ∧ f.w = true ∧
      ¬ (InList f.rlist f.rn ∧ SamePhysical State.reset.mode .usr f.rn) := by
  refine ⟨trivial, by decide, rfl, ?_, rfl, ?_⟩
  · unfold InList; decide
  · rintro ⟨-, h⟩; revert h; simp [SamePhysical, State.reset, State.resetAt, Mode.bank]

theorem witness_LoadMultipleReturns :
    let f : BdtForm := ⟨.al, false, true, true, true, 13#4, 0x8001#16⟩
    let s : State := { State.reset with spsr := 0x10#32 }
    Holds s f.cond ∧ f.s = true ∧ InList f.rlist 15#4 ∧ s.mode ≠ .usr ∧ s.mode ≠ .sys ∧
      modeNumber .usr = s.spsr.extractLsb' 0 5 ∧ f.w = true ∧ ¬ InList f.rlist f.rn := by
  refine ⟨trivial, rfl, rfl, by decide, by decide, by decide, rfl, ?_⟩
  unfold InList
  decide

/-- `STMDB r1!, {r0, r1, pc}^`: the base is in the list and not the lowest. -/
theorem witness_StoreMultiple :
    let f : BdtForm := ⟨.al, true, false, true, true, 1#4, 0x8003#16⟩
    Holds State.reset f.cond ∧ f.rlist ≠ 0#16 ∧ rank f.rlist f.rn ≠ 0 := ⟨trivial, by decide, by decide⟩

theorem witness_MoveFromStatus :
    Holds State.reset .al ∧ ((MrsForm.mk .al true 15#4).r = true → State.reset.mode ≠ .usr ∧ State.reset.mode ≠ .sys) :=
  ⟨trivial, fun _ => by decide⟩

theorem witness_MoveToCurrentStatus :
    MsrRow (.msrImm ⟨.al, false, ⟨true, false, false, true⟩, 0#4, 0xDF#8⟩) .al false ⟨true, false, false, true⟩
      (fun _ => ((0xDF#8).setWidth 32).rotateRight (2 * (0#4).toNat)) ∧
    Holds State.reset .al ∧ State.reset.mode ≠ .usr ∧
    modeNumber .sys = (((0xDF#8).setWidth 32).rotateRight (2 * (0#4).toNat)).extractLsb' 0 5 :=
  ⟨.imm ⟨.al, false, ⟨true, false, false, true⟩, 0#4, 0xDF#8⟩, trivial, by decide, by decide⟩

theorem witness_MoveToSavedStatus :
    MsrRow (.msrReg ⟨.al, true, ⟨true, true, true, true⟩, 0#4⟩) .al true ⟨true, true, true, true⟩ (·.reg 0#4) ∧
    Holds State.reset .al ∧ State.reset.mode ≠ .usr ∧ State.reset.mode ≠ .sys ∧ (placed [] false 4#32).mode = .usr :=
  ⟨.reg ⟨.al, true, ⟨true, true, true, true⟩, 0#4⟩, trivial, by decide, by decide, rfl⟩

theorem witness_CoprocessorIsLogged :
    decodeArm 0xEE000000#32 = some (.cdp ⟨.al, 0#4, 0#4, 0#4, 0#4, 0#3, 0#4⟩) ∧
    CoprocessorRow (.cdp ⟨.al, 0#4, 0#4, 0#4, 0#4, 0#3, 0#4⟩) ∧
    condition (.cdp ⟨.al, 0#4, 0#4, 0#4, 0#4, 0#3, 0#4⟩) = some .al ∧ Holds State.reset .al :=
  ⟨by decide, .cdp _, rfl, trivial⟩

theorem witness_ThumbArithmetic :
    ThumbDpRow (.tNeg ⟨7#4, 7#4⟩) .rsb 7#4 (·.reg 7#4) (fun _ => 0#32) (·.c) 0 := .neg ⟨7#4, 7#4⟩

theorem witness_ThumbMoves : ThumbMoveRow (.tAddHi ⟨15#4, 15#4⟩) 15#4 (fun s => s.reg 15#4 + s.reg 15#4) :=
  .addHi ⟨15#4, 15#4⟩

theorem witness_ThumbLoads : ThumbLoadRow (.tLdsh ⟨0#4, 0#4, 0#4⟩) .signedHalf 0#4 (fun s => s.reg 0#4 + s.reg 0#4) :=
  .ldsh ⟨0#4, 0#4, 0#4⟩

theorem witness_ThumbStores : ThumbStoreRow (.tStrbReg ⟨0#4, 0#4, 0#4⟩) .byte 0#4 (fun s => s.reg 0#4 + s.reg 0#4) :=
  .strbReg ⟨0#4, 0#4, 0#4⟩

/-- `PUSH {lr}` and `STMIA r7!, {r0, r7}`. -/
theorem witness_ThumbBlockStores :
    ¬ ((TPushPop.mk true 0#8).rlist = 0#8 ∧ (TPushPop.mk true 0#8).r = false) ∧ (TBlock.mk 7#4 0x81#8).rlist ≠ 0#8 := by
  decide

/-- `POP {pc}` and `LDMIA r7!, {r0}`: the base is not in the list. -/
theorem witness_ThumbBlockLoads :
    ¬ ((TPushPop.mk true 0#8).rlist = 0#8 ∧ (TPushPop.mk true 0#8).r = false) ∧ (TBlock.mk 7#4 1#8).rlist ≠ 0#8 ∧
    ¬ InList ((1#8).setWidth 16) (TBlock.mk 7#4 1#8).rb := by
  refine ⟨by decide, by decide, ?_⟩
  unfold InList
  decide

end Sys2Proof.Tests
end

section
/-!
PROOF. `AddWithCarry` (spec/00_scope.md R13): its value, carry and overflow against unbounded integers, and the
subtraction it gives on a complemented second operand.
-/

namespace Sys2Proof.Proofs

open Sys2Proof.Machine Sys2Proof.Claims

/-! ### The sum -/

theorem addWithCarry_value_toNat (a b : Word) (c : Bool) :
    (addWithCarry a b c).value.toNat = (a.toNat + b.toNat + c.toNat) % 2 ^ 32 :=
  BitVec.toNat_ofNat _ _

theorem addWithCarry_carry_iff (a b : Word) (c : Bool) :
    (addWithCarry a b c).carry = true ↔ 2 ^ 32 ≤ a.toNat + b.toNat + c.toNat :=
  decide_eq_true_iff

theorem addWithCarry_overflow_iff (a b : Word) (c : Bool) :
    (addWithCarry a b c).overflow = true ↔
      a.toInt + b.toInt + (c.toNat : Int) ≠ (addWithCarry a b c).value.toInt :=
  decide_eq_true_iff

theorem addWithCarry_value (a b : Word) (c : Bool) :
    (addWithCarry a b c).value = a + b + BitVec.ofNat 32 c.toNat := by
  simp [addWithCarry, BitVec.ofNat_add]

/-- The value truncates the signed sum as well as the unsigned one. -/
theorem addWithCarry_value_toInt (a b : Word) (c : Bool) :
    (addWithCarry a b c).value.toInt = (a.toInt + b.toInt + (c.toNat : Int)).bmod (2 ^ 32) := by
  rw [addWithCarry_value, BitVec.toInt_add, BitVec.toInt_add, BitVec.toInt_ofNat', Int.bmod_add_bmod, Int.add_bmod_bmod]

/-- A signed number is its own truncation exactly when it fits in 32 bits. -/
theorem bmod_eq_self_iff_fits (n : Int) : n.bmod (2 ^ 32) = n ↔ -(2 ^ 31 : Int) ≤ n ∧ n < 2 ^ 31 := by
  rw [Int.bmod_eq_iff (by decide)]
  omega

/-- The overflow says that the exact signed sum is no 32-bit signed number (R13). -/
theorem addWithCarry_overflow_iff_not_fits (a b : Word) (c : Bool) :
    (addWithCarry a b c).overflow = true ↔
      ¬ (-(2 ^ 31 : Int) ≤ a.toInt + b.toInt + (c.toNat : Int) ∧ a.toInt + b.toInt + (c.toNat : Int) < 2 ^ 31) := by
  rw [addWithCarry_overflow_iff, addWithCarry_value_toInt, ← bmod_eq_self_iff_fits, ne_comm]

/-! ### The subtraction -/

/-- Two's complement: the complement plus 1 is the negation. -/
theorem addWithCarry_complement_value (a b : Word) : (addWithCarry a (~~~b) true).value = a - b := by
  rw [addWithCarry_value, BitVec.sub_eq_add_neg, BitVec.neg_eq_not_add, Bool.toNat_true, BitVec.add_assoc]

/-- The carry of a subtraction is "no borrow". -/
theorem addWithCarry_complement_carry_iff (a b : Word) :
    (addWithCarry a (~~~b) true).carry = true ↔ b.toNat ≤ a.toNat := by
  rw [addWithCarry_carry_iff, BitVec.toNat_not, Bool.toNat_true]
  have := b.isLt
  omega

/-- The complement and the carry make the signed sum the signed difference. -/
theorem addWithCarry_complement_overflow_iff (a b : Word) :
    (addWithCarry a (~~~b) true).overflow = true ↔
      ¬ (-(2 ^ 31 : Int) ≤ a.toInt - b.toInt ∧ a.toInt - b.toInt < 2 ^ 31) := by
  have difference : a.toInt + (~~~b).toInt + ((true.toNat : Nat) : Int) = a.toInt - b.toInt := by
    rw [toInt_complement, Bool.toNat_true]
    omega
  rw [addWithCarry_overflow_iff_not_fits, difference]

/-- Settles O21: three clauses are the adder's own laws, three those of the subtraction built on it. -/
theorem addWithCarryIsExact : Obligations.AddWithCarryIsExact := fun a b c =>
  ⟨addWithCarry_value_toNat a b c, addWithCarry_carry_iff a b c, addWithCarry_overflow_iff a b c,
    addWithCarry_complement_value a b, addWithCarry_complement_carry_iff a b, addWithCarry_complement_overflow_iff a b⟩

end Sys2Proof.Proofs
end

section
/-!
PROOF. Banks and modes (spec/10_state.md R31 to R37): what a mode switch leaves in every field, and the registers as every
mode sees them. A bank's three words are live in its own modes and stored in the others; `bankView` and `highView` say
which of the two, and a mode switch changes neither.
-/

namespace Sys2Proof.Proofs

open Sys2Proof.Machine Sys2Proof.Claims

/-! ### The banks' storage -/

theorem shadow_get_set (h : Shadow) (b c : Bank) (e : BankShadow) : (h.set b e).get c = if c = b then e else h.get c := by
  cases b <;> cases c <;> rfl

theorem highShadow_get_set (h : HighShadow) (b c : HighBank) (e : Vector Word 5) :
    (h.set b e).get c = if c = b then e else h.get c := by
  cases b <;> cases c <;> rfl

/-- The live R13, R14 and saved status, in the form a bank stores them in. -/
def liveBank (s : State) : BankShadow := ⟨s.reg Reg.sp, s.reg Reg.lr, s.spsr⟩

/-- The words of a bank, wherever they stand: live in the bank's own modes, stored in the others (R32). -/
def bankView (s : State) (b : Bank) : BankShadow := if b = s.mode.bank then liveBank s else s.shadow.get b

/-- A set of R8 to R12, wherever it stands (R33). -/
def highView (s : State) (h : HighBank) : Vector Word 5 :=
  if h = s.mode.bank.high then s.liveHigh else s.shadow8_12.get h

/-! ### Kinds of registers -/

/-- The registers that FIQ mode has of its own, by number. -/
theorem high_reg_cases {r : Reg} (h : 8 ≤ r.toNat ∧ r.toNat ≤ 12) :
    r = 8#4 ∨ r = 9#4 ∨ r = 10#4 ∨ r = 11#4 ∨ r = 12#4 := by
  revert r; decide

/-- A register is one of R8 to R12, R13, R14, or one that every mode shares. -/
theorem reg_kinds (r : Reg) :
    (8 ≤ r.toNat ∧ r.toNat ≤ 12) ∨ r = Reg.sp ∨ r = Reg.lr ∨
      (¬ (8 ≤ r.toNat ∧ r.toNat ≤ 12) ∧ r ≠ Reg.sp ∧ r ≠ Reg.lr) := by
  revert r; decide

theorem liveHigh_getElem (s : State) {r : Reg} (h : 8 ≤ r.toNat ∧ r.toNat ≤ 12) :
    s.liveHigh[r.toNat - 8]'(by omega) = s.reg r := by
  rcases high_reg_cases h with rfl | rfl | rfl | rfl | rfl <;> rfl

/-! ### The register view by kind of register (R37) -/

theorem view_high (s : State) (m : Mode) {r : Reg} (h : 8 ≤ r.toNat ∧ r.toNat ≤ 12) :
    s.view m r = (highView s m.bank.high)[r.toNat - 8]'(by omega) := by
  unfold State.view highView
  rw [dif_pos h]
  split
  · exact (liveHigh_getElem s h).symm
  · rfl

theorem view_sp (s : State) (m : Mode) : s.view m Reg.sp = (bankView s m.bank).r13 :=
  (apply_ite BankShadow.r13 (m.bank = s.mode.bank) (liveBank s) (s.shadow.get m.bank)).symm

theorem view_lr (s : State) (m : Mode) : s.view m Reg.lr = (bankView s m.bank).r14 :=
  (apply_ite BankShadow.r14 (m.bank = s.mode.bank) (liveBank s) (s.shadow.get m.bank)).symm

theorem view_shared (s : State) (m : Mode) {r : Reg} (h : ¬ (8 ≤ r.toNat ∧ r.toNat ≤ 12)) (hsp : r ≠ Reg.sp)
    (hlr : r ≠ Reg.lr) : s.view m r = s.reg r := by
  unfold State.view; rw [dif_neg h, if_neg hsp, if_neg hlr]

theorem viewSpsr_eq (s : State) (m : Mode) : s.viewSpsr m = (bankView s m.bank).spsr :=
  (apply_ite BankShadow.spsr (m.bank = s.mode.bank) (liveBank s) (s.shadow.get m.bank)).symm

/-- The live registers are those the current mode sees. -/
theorem view_mode (s : State) (r : Reg) : s.view s.mode r = s.reg r := by
  unfold State.view
  simp only [if_true, dite_eq_ite, ite_self]

/-- What a mode sees depends on the banks and on the shared registers alone. -/
theorem view_congr {s t : State} (hbank : ∀ b, bankView t b = bankView s b) (hhigh : ∀ h, highView t h = highView s h)
    (hshared : ∀ r : Reg, ¬ (8 ≤ r.toNat ∧ r.toNat ≤ 12) → r ≠ Reg.sp → r ≠ Reg.lr → t.reg r = s.reg r)
    (m : Mode) (r : Reg) : t.view m r = s.view m r := by
  rcases reg_kinds r with h | rfl | rfl | ⟨h, hsp, hlr⟩
  · rw [view_high t m h, view_high s m h]; simp only [hhigh]
  · rw [view_sp, view_sp, hbank]
  · rw [view_lr, view_lr, hbank]
  · rw [view_shared t m h hsp hlr, view_shared s m h hsp hlr, hshared r h hsp hlr]

/-! ### The two exchanges (R36) -/

theorem reg_exchangeBank (s : State) (old new : Bank) (r : Reg) :
    (s.exchangeBank old new).reg r =
      if r = Reg.lr then (s.shadow.get new).r14 else if r = Reg.sp then (s.shadow.get new).r13 else s.reg r :=
  (State.reg_setReg (s.setReg Reg.sp _) Reg.lr r _).trans (by rw [State.reg_setReg])

theorem reg_exchangeBank_other (s : State) (old new : Bank) {r : Reg} (hsp : r ≠ Reg.sp) (hlr : r ≠ Reg.lr) :
    (s.exchangeBank old new).reg r = s.reg r := by
  rw [reg_exchangeBank, if_neg hlr, if_neg hsp]

theorem liveBank_exchangeBank (s : State) (old new : Bank) : liveBank (s.exchangeBank old new) = s.shadow.get new := by
  unfold liveBank
  rw [reg_exchangeBank, reg_exchangeBank]
  rfl

theorem liveHigh_exchangeBank (s : State) (old new : Bank) : (s.exchangeBank old new).liveHigh = s.liveHigh := by
  simp [State.liveHigh, State.exchangeBank]

theorem reg_exchangeHigh_other (s : State) (old new : HighBank) {r : Reg} (h : ¬ (8 ≤ r.toNat ∧ r.toNat ≤ 12)) :
    (s.exchangeHigh old new).reg r = s.reg r := by
  simp only [State.exchangeHigh, State.reg, Vector.getElem_set]
  repeat' rw [if_neg (by omega)]

theorem liveBank_exchangeHigh (s : State) (old new : HighBank) : liveBank (s.exchangeHigh old new) = liveBank s := by
  unfold liveBank
  rw [reg_exchangeHigh_other s _ _ (by decide), reg_exchangeHigh_other s _ _ (by decide)]
  rfl

theorem liveHigh_exchangeHigh (s : State) {old new : HighBank} (h : new ≠ old) :
    (s.exchangeHigh old new).liveHigh = s.shadow8_12.get new := by
  rw [← if_neg h (c := new = old) (t := s.liveHigh) (e := s.shadow8_12.get new), ← highShadow_get_set]
  refine Vector.ext fun k hk => ?_
  obtain rfl | rfl | rfl | rfl | rfl : k = 0 ∨ k = 1 ∨ k = 2 ∨ k = 3 ∨ k = 4 := by omega
  all_goals simp [State.exchangeHigh, State.liveHigh]

/-! ### The mode switch -/

/-- Two different banks differ in their set of R8 to R12 exactly when one of them is FIQ's (R33). -/
theorem high_ne_iff {b c : Bank} (h : b ≠ c) : b.high ≠ c.high ↔ b = .fiq ∨ c = .fiq := by
  revert h; cases b <;> cases c <;> decide

/-- A mode switch changes the mode alone, or exchanges one pair of banks, or two. -/
theorem switchModeTo_cases (s : State) (m : Mode) :
    (m.bank = s.mode.bank ∧ s.switchModeTo m = { s with mode := m }) ∨
    (m.bank ≠ s.mode.bank ∧ m.bank.high = s.mode.bank.high ∧
      s.switchModeTo m = { s.exchangeBank s.mode.bank m.bank with mode := m }) ∨
    (m.bank ≠ s.mode.bank ∧ m.bank.high ≠ s.mode.bank.high ∧
      s.switchModeTo m =
        { (s.exchangeHigh s.mode.bank.high m.bank.high).exchangeBank s.mode.bank m.bank with mode := m }) := by
  unfold State.switchModeTo
  by_cases h : m.bank = s.mode.bank
  · refine .inl ⟨h, ?_⟩
    split
    · next e => subst e; rfl
    · simp only [if_pos h]
  · rw [if_neg fun e => h (congrArg Mode.bank e)]
    simp only [if_neg h, ← high_ne_iff h]
    by_cases hh : m.bank.high = s.mode.bank.high
    · exact .inr (.inl ⟨h, hh, by simp only [ne_eq, hh, not_true, if_false]⟩)
    · exact .inr (.inr ⟨h, hh, by simp only [ne_eq, hh, not_false_iff, if_true]⟩)

theorem shadow_switchModeTo (s : State) (m : Mode) :
    (s.switchModeTo m).shadow = if m.bank = s.mode.bank then s.shadow else s.shadow.set s.mode.bank (liveBank s) := by
  rcases switchModeTo_cases s m with ⟨h, e⟩ | ⟨h, -, e⟩ | ⟨h, -, e⟩
  · rw [e, if_pos h]
  · rw [e, if_neg h]; rfl
  · rw [e, if_neg h, ← liveBank_exchangeHigh s s.mode.bank.high m.bank.high]; rfl

theorem shadow8_12_switchModeTo (s : State) (m : Mode) :
    (s.switchModeTo m).shadow8_12 =
      if m.bank.high = s.mode.bank.high then s.shadow8_12 else s.shadow8_12.set s.mode.bank.high s.liveHigh := by
  rcases switchModeTo_cases s m with ⟨h, e⟩ | ⟨-, h, e⟩ | ⟨-, h, e⟩
  · rw [e, if_pos (h ▸ rfl)]
  · rw [e, if_pos h]; rfl
  · rw [e, if_neg h]; rfl

/-- A mode switch leaves live the words of the bank entered. -/
theorem liveBank_switchModeTo (s : State) (m : Mode) : liveBank (s.switchModeTo m) = bankView s m.bank := by
  unfold bankView
  rcases switchModeTo_cases s m with ⟨h, e⟩ | ⟨h, -, e⟩ | ⟨h, -, e⟩
  · rw [e, if_pos h]; rfl
  · rw [e, if_neg h]; exact liveBank_exchangeBank _ s.mode.bank m.bank
  · rw [e, if_neg h]; exact liveBank_exchangeBank _ s.mode.bank m.bank

theorem liveHigh_switchModeTo (s : State) (m : Mode) : (s.switchModeTo m).liveHigh = highView s m.bank.high := by
  unfold highView
  rcases switchModeTo_cases s m with ⟨h, e⟩ | ⟨-, h, e⟩ | ⟨-, h, e⟩
  · rw [e, if_pos (h ▸ rfl)]; rfl
  · rw [e, if_pos h]; exact liveHigh_exchangeBank s s.mode.bank m.bank
  · rw [e, if_neg h]; exact (liveHigh_exchangeBank _ s.mode.bank m.bank).trans (liveHigh_exchangeHigh s h)

/-- A mode switch leaves the registers that every mode shares alone. -/
theorem reg_switchModeTo_shared (s : State) (m : Mode) {r : Reg} (h : ¬ (8 ≤ r.toNat ∧ r.toNat ≤ 12))
    (hsp : r ≠ Reg.sp) (hlr : r ≠ Reg.lr) : (s.switchModeTo m).reg r = s.reg r := by
  rcases switchModeTo_cases s m with ⟨-, e⟩ | ⟨-, -, e⟩ | ⟨-, -, e⟩ <;> rw [e]
  · rfl
  · exact reg_exchangeBank_other s s.mode.bank m.bank hsp hlr
  · exact (reg_exchangeBank_other _ s.mode.bank m.bank hsp hlr).trans (reg_exchangeHigh_other s _ _ h)

/-- A mode switch moves a bank's words between the live registers and the storage, and changes none. -/
theorem bankView_switchModeTo (s : State) (m : Mode) (b : Bank) : bankView (s.switchModeTo m) b = bankView s b := by
  rw [bankView, State.switchModeTo_mode, liveBank_switchModeTo, shadow_switchModeTo]
  split
  · next h => rw [h]
  · next h =>
    unfold bankView
    by_cases k : m.bank = s.mode.bank
    · rw [if_pos k, if_neg (k ▸ h)]
    · rw [if_neg k, shadow_get_set]

theorem highView_switchModeTo (s : State) (m : Mode) (h : HighBank) : highView (s.switchModeTo m) h = highView s h := by
  rw [highView, State.switchModeTo_mode, liveHigh_switchModeTo, shadow8_12_switchModeTo]
  split
  · next e => rw [e]
  · next e =>
    unfold highView
    by_cases k : m.bank.high = s.mode.bank.high
    · rw [if_pos k, if_neg (k ▸ e)]
    · rw [if_neg k, highShadow_get_set]

/-- A mode switch changes no register of any mode as that mode sees it. -/
theorem view_switchModeTo (s : State) (m' m : Mode) (r : Reg) : (s.switchModeTo m').view m r = s.view m r :=
  view_congr (bankView_switchModeTo s m') (highView_switchModeTo s m') (fun _ => reg_switchModeTo_shared s m') m r

/-- A mode switch changes no mode's saved status. -/
theorem viewSpsr_switchModeTo (s : State) (m' m : Mode) : (s.switchModeTo m').viewSpsr m = s.viewSpsr m := by
  rw [viewSpsr_eq, viewSpsr_eq, bankView_switchModeTo]

/-- A mode switch leaves live the registers the mode entered sees. -/
theorem reg_switchModeTo (s : State) (m : Mode) (r : Reg) : (s.switchModeTo m).reg r = s.view m r := by
  rw [← view_switchModeTo s m m r, ← view_mode, State.switchModeTo_mode]

theorem spsr_switchModeTo (s : State) (m : Mode) : (s.switchModeTo m).spsr = s.viewSpsr m := by
  rw [viewSpsr_eq, ← liveBank_switchModeTo]
  rfl

end Sys2Proof.Proofs
end

section
/-!
PROOF. The register view, `SwitchMode` and the status word (R36 to R39): what a write to a live register changes in every
mode's view, every bit of the packed status, and what unpacking one loads.
-/

namespace Sys2Proof.Proofs

open Sys2Proof.Machine Sys2Proof.Claims

/-! ### Which modes share a register (R37) -/

theorem modeNumber_eq (m : Mode) : modeNumber m = m.bits := by cases m <;> rfl

theorem highSet_eq (m : Mode) : highSet m = m.bank.high := by cases m <;> rfl

theorem bank_high_eq_iff (m m' : Mode) : m.bank.high = m'.bank.high ↔ (m = .fiq ↔ m' = .fiq) := by
  cases m <;> cases m' <;> decide

theorem samePhysical_high {m m' : Mode} {r : Reg} (h : 8 ≤ r.toNat ∧ r.toNat ≤ 12) :
    SamePhysical m m' r ↔ m.bank.high = m'.bank.high := by
  unfold SamePhysical; rw [if_pos h, bank_high_eq_iff]

theorem samePhysical_sp {m m' : Mode} : SamePhysical m m' Reg.sp ↔ m.bank = m'.bank := Iff.rfl

theorem samePhysical_lr {m m' : Mode} : SamePhysical m m' Reg.lr ↔ m.bank = m'.bank := Iff.rfl

theorem samePhysical_shared {m m' : Mode} {r : Reg} (h : ¬ (8 ≤ r.toNat ∧ r.toNat ≤ 12)) (hsp : r ≠ Reg.sp)
    (hlr : r ≠ Reg.lr) : SamePhysical m m' r := by
  unfold SamePhysical
  rw [if_neg h, if_neg (not_or.2 ⟨hsp, hlr⟩)]
  trivial

/-- A mode sees a live register that it shares with the current mode. -/
theorem view_of_samePhysical {s : State} {m : Mode} {r : Reg} (h : SamePhysical m s.mode r) : s.view m r = s.reg r := by
  rw [← view_mode]
  rcases reg_kinds r with k | rfl | rfl | ⟨k, hsp, hlr⟩
  · rw [view_high s m k, view_high s s.mode k]; simp only [(samePhysical_high k).1 h]
  · rw [view_sp, view_sp, samePhysical_sp.1 h]
  · rw [view_lr, view_lr, samePhysical_lr.1 h]
  · rw [view_shared s m k hsp hlr, view_shared s s.mode k hsp hlr]

/-- Two states with one mode and one storage show a mode the same register, if it is not live or is the same there. -/
theorem view_congr_live {s t : State} (hmode : t.mode = s.mode) (hshadow : t.shadow = s.shadow)
    (hhigh : t.shadow8_12 = s.shadow8_12) {m : Mode} {r : Reg} (hreg : SamePhysical m s.mode r → t.reg r = s.reg r) :
    t.view m r = s.view m r := by
  by_cases h : SamePhysical m s.mode r
  · rw [view_of_samePhysical h, view_of_samePhysical (hmode ▸ h), hreg h]
  · rcases reg_kinds r with k | rfl | rfl | ⟨k, hsp, hlr⟩
    · rw [samePhysical_high k] at h
      rw [view_high t m k, view_high s m k]
      simp only [highView, hmode, hhigh, if_neg h]
    · rw [samePhysical_sp] at h
      simp only [view_sp, bankView, hmode, hshadow, if_neg h]
    · rw [samePhysical_lr] at h
      simp only [view_lr, bankView, hmode, hshadow, if_neg h]
    · exact absurd (samePhysical_shared k hsp hlr) h

theorem viewSpsr_congr {s t : State} (hmode : t.mode = s.mode) (hshadow : t.shadow = s.shadow) (hspsr : t.spsr = s.spsr)
    (m : Mode) : t.viewSpsr m = s.viewSpsr m := by
  unfold State.viewSpsr; rw [hmode, hshadow, hspsr]

/-- A write to a live register is seen by the modes that share it. -/
theorem view_setReg_same {s : State} {m : Mode} {r : Reg} (v : Word) (h : SamePhysical m s.mode r) :
    (s.setReg r v).view m r = v :=
  (view_of_samePhysical (s := s.setReg r v) h).trans (s.reg_setReg_same r v)

/-- A write to a live register is not seen by the modes that have another. -/
theorem view_setReg_not_same {s : State} {m : Mode} {r : Reg} (v : Word) (h : ¬ SamePhysical m s.mode r) :
    (s.setReg r v).view m r = s.view m r :=
  view_congr_live (s := s) (t := s.setReg r v) rfl rfl rfl fun k => absurd k h

/-- Settles O27: the two views by kind of register, the switch by `view_switchModeTo`. -/
theorem registerViewByMode : Obligations.RegisterViewByMode := fun s m m' r v =>
  ⟨view_switchModeTo s m' m r, viewSpsr_switchModeTo s m' m, (view_mode s r).symm,
    (if_pos rfl : s.viewSpsr s.mode = s.spsr).symm, view_setReg_same v, view_setReg_not_same v⟩

/-! ### The frame of a mode switch (R36) -/

@[simp] theorem switchModeTo_n (s : State) (m : Mode) : (s.switchModeTo m).n = s.n := by rw [State.switchModeTo_eq]
@[simp] theorem switchModeTo_z (s : State) (m : Mode) : (s.switchModeTo m).z = s.z := by rw [State.switchModeTo_eq]
@[simp] theorem switchModeTo_c (s : State) (m : Mode) : (s.switchModeTo m).c = s.c := by rw [State.switchModeTo_eq]
@[simp] theorem switchModeTo_v (s : State) (m : Mode) : (s.switchModeTo m).v = s.v := by rw [State.switchModeTo_eq]
@[simp] theorem switchModeTo_i (s : State) (m : Mode) : (s.switchModeTo m).i = s.i := by rw [State.switchModeTo_eq]
@[simp] theorem switchModeTo_f (s : State) (m : Mode) : (s.switchModeTo m).f = s.f := by rw [State.switchModeTo_eq]
@[simp] theorem switchModeTo_t (s : State) (m : Mode) : (s.switchModeTo m).t = s.t := by rw [State.switchModeTo_eq]
@[simp] theorem switchModeTo_mem (s : State) (m : Mode) : (s.switchModeTo m).mem = s.mem := by
  rw [State.switchModeTo_eq]
@[simp] theorem switchModeTo_log (s : State) (m : Mode) : (s.switchModeTo m).log = s.log := by
  rw [State.switchModeTo_eq]
@[simp] theorem switchModeTo_icacheArm (s : State) (m : Mode) : (s.switchModeTo m).icacheArm = s.icacheArm := by
  rw [State.switchModeTo_eq]
@[simp] theorem switchModeTo_icacheThumb (s : State) (m : Mode) : (s.switchModeTo m).icacheThumb = s.icacheThumb := by
  rw [State.switchModeTo_eq]
@[simp] theorem switchModeTo_cycles (s : State) (m : Mode) : (s.switchModeTo m).cycles = s.cycles := by
  rw [State.switchModeTo_eq]
@[simp] theorem switchModeTo_fetchNonSeq (s : State) (m : Mode) : (s.switchModeTo m).fetchNonSeq = s.fetchNonSeq := by
  rw [State.switchModeTo_eq]
@[simp] theorem switchModeTo_condPassed (s : State) (m : Mode) : (s.switchModeTo m).condPassed = s.condPassed := by
  rw [State.switchModeTo_eq]

theorem sameFlags_switchModeTo (s : State) (m : Mode) : SameFlags s (s.switchModeTo m) := by simp [SameFlags]

theorem sameMemory_switchModeTo (s : State) (m : Mode) : SameMemory s (s.switchModeTo m) :=
  ⟨State.byteAt_congr (switchModeTo_mem s m), switchModeTo_icacheArm s m, switchModeTo_icacheThumb s m⟩

theorem ofBits_modeNumber (m : Mode) : Mode.ofBits (modeNumber m) = some m := by rw [modeNumber_eq, Mode.ofBits_bits]

theorem ofBits_eq_none {b : BitVec 5} (h : ∀ m, modeNumber m ≠ b) : Mode.ofBits b = none :=
  (Mode.ofBits_eq_none_iff b).2 fun m => modeNumber_eq m ▸ h m

/-- A switch between modes of one bank exchanges nothing (R36). -/
theorem switchModeTo_frame_sameBank {s : State} {m : Mode} (h : m.bank = s.mode.bank) :
    (s.switchModeTo m).x = s.x ∧ SameBanks s (s.switchModeTo m) := by
  rcases switchModeTo_cases s m with ⟨-, e⟩ | ⟨k, -⟩ | ⟨k, -⟩
  · rw [e]; exact ⟨rfl, rfl, rfl, rfl⟩
  · exact absurd h k
  · exact absurd h k

theorem liveHigh_getElem_fin (s : State) (k : Fin 5) : s.liveHigh[k] = s.reg (BitVec.ofNat 4 (8 + k)) := by
  match k with
  | 0 | 1 | 2 | 3 | 4 => rfl

/-- A switch with no FIQ mode in it leaves R8 to R12 and both their sets alone. -/
theorem switchModeTo_high_noFiq {s : State} {m : Mode} (hm : m ≠ .fiq) (hs : s.mode ≠ .fiq) :
    (s.switchModeTo m).shadow8_12 = s.shadow8_12 ∧
      ∀ r : Reg, 8 ≤ r.toNat → r.toNat ≤ 12 → (s.switchModeTo m).reg r = s.reg r := by
  have h : m.bank.high = s.mode.bank.high := (bank_high_eq_iff m s.mode).2 (by simp [hm, hs])
  refine ⟨by rw [shadow8_12_switchModeTo, if_pos h], fun r h8 h12 => ?_⟩
  rw [reg_switchModeTo, view_of_samePhysical ((samePhysical_high ⟨h8, h12⟩).2 h)]

/-- A switch into or out of FIQ mode exchanges R8 to R12 between their two sets (R33, R36). -/
theorem switchModeTo_high_fiq {s : State} {m : Mode} (hb : m.bank ≠ s.mode.bank) (hf : m = .fiq ∨ s.mode = .fiq) :
    (s.switchModeTo m).liveHigh = s.shadow8_12.get (highSet m) ∧
      (s.switchModeTo m).shadow8_12.get (highSet s.mode) = s.liveHigh ∧
      ∀ h, h ≠ highSet s.mode → (s.switchModeTo m).shadow8_12.get h = s.shadow8_12.get h := by
  have hh : m.bank.high ≠ s.mode.bank.high := (high_ne_iff hb).2 (hf.imp (congrArg Mode.bank) (congrArg Mode.bank))
  rw [liveHigh_switchModeTo, shadow8_12_switchModeTo, if_neg hh, highSet_eq, highSet_eq, highView, if_neg hh]
  refine ⟨rfl, ?_, fun h k => ?_⟩
  · rw [highShadow_get_set, if_pos rfl]
  · rw [highShadow_get_set, if_neg k]

/-- Settles O26: the frame by the field lemmas of the switch, the exchange by the banks' storage after it. -/
theorem switchModeRules : Obligations.SwitchModeRules := by
  intro s b
  refine ⟨?_, fun h => ?_, ?_⟩
  · rw [State.switchMode_eq, ofBits_modeNumber, Option.map_some, State.switchModeTo_same]
  · rw [State.switchMode_eq, ofBits_eq_none h, Option.map_none]
  rintro m rfl
  refine ⟨s.switchModeTo m, by rw [State.switchMode_eq, ofBits_modeNumber, Option.map_some], State.switchModeTo_mode s m,
    sameFlags_switchModeTo s m, switchModeTo_i s m, switchModeTo_f s m, switchModeTo_t s m, fun r hr => ?_,
    sameMemory_switchModeTo s m, switchModeTo_cycles s m, switchModeTo_fetchNonSeq s m, switchModeTo_condPassed s m,
    switchModeTo_log s m, switchModeTo_frame_sameBank, fun hb => ?_⟩
  · refine reg_switchModeTo_shared s m ?_ ?_ ?_ <;> revert r <;> decide
  have live : liveBank (s.switchModeTo m) = s.shadow.get m.bank := by rw [liveBank_switchModeTo, bankView, if_neg hb]
  have stored := shadow_switchModeTo s m
  rw [if_neg hb] at stored
  refine ⟨congrArg BankShadow.r13 live, congrArg BankShadow.r14 live, congrArg BankShadow.spsr live, ?_, fun k hk => ?_,
    switchModeTo_high_noFiq, fun hf => ?_⟩
  · rw [stored, shadow_get_set, if_pos rfl]; rfl
  · rw [stored, shadow_get_set, if_neg hk]
  · obtain ⟨entered, left, other⟩ := switchModeTo_high_fiq hb hf
    exact ⟨fun k => ⟨by rw [← liveHigh_getElem_fin, entered], by rw [left, liveHigh_getElem_fin]⟩, other⟩

/-! ### The status word (R38, R39) -/

/-- The packed status bit by bit, its width written as the sum of its fields' widths. -/
theorem packStatus_getLsbD (s : State) (k : Nat) :
    s.packStatus.getLsbD k =
      (bit1 s.n ++ bit1 s.z ++ bit1 s.c ++ bit1 s.v ++ 0#20 ++ bit1 s.i ++ bit1 s.f ++ bit1 s.t ++ s.mode.bits).getLsbD k :=
  rfl

theorem packStatus_mode (s : State) : s.packStatus.extractLsb' 0 5 = s.mode.bits := by
  refine BitVec.eq_of_getLsbD_eq fun k hk => ?_
  rw [BitVec.getLsbD_extractLsb', Nat.zero_add, packStatus_getLsbD]
  simp only [BitVec.getLsbD_append, hk, decide_true, Bool.true_and, if_true]

theorem packStatus_reserved (s : State) (k : Nat) (h8 : 8 ≤ k) (h28 : k < 28) : s.packStatus.getLsbD k = false := by
  rw [packStatus_getLsbD]
  simp only [BitVec.getLsbD_append]
  rw [if_neg (by omega), if_neg (by omega), if_neg (by omega), if_neg (by omega), if_pos (by omega)]
  exact BitVec.getLsbD_zero

theorem packStatus_fields (s : State) :
    s.packStatus.getLsbD 31 = s.n ∧ s.packStatus.getLsbD 30 = s.z ∧ s.packStatus.getLsbD 29 = s.c ∧
    s.packStatus.getLsbD 28 = s.v ∧ s.packStatus.getLsbD 7 = s.i ∧ s.packStatus.getLsbD 6 = s.f ∧
    s.packStatus.getLsbD 5 = s.t := by
  simp only [packStatus_getLsbD, BitVec.getLsbD_append]
  simp

/-- Settles O24: each bit is that of its field in the concatenation. -/
theorem packStatusBits : Obligations.PackStatusBits := fun s =>
  let ⟨hn, hz, hc, hv, hi, hf, ht⟩ := packStatus_fields s
  ⟨hn, hz, hc, hv, hi, hf, ht, (packStatus_mode s).trans (modeNumber_eq s.mode).symm, packStatus_reserved s⟩

/-- The state `UnpackStatus` makes of a status word with the mode number of `m` (R39). -/
def unpacked (s : State) (m : Mode) (w : Word) : State :=
  { s.switchModeTo m with
    t := w.getLsbD 5, f := w.getLsbD 6, i := w.getLsbD 7
    v := w.getLsbD 28, c := w.getLsbD 29, z := w.getLsbD 30, n := w.getLsbD 31 }

theorem unpackStatus_of_mode {s : State} {m : Mode} {w : Word} (h : modeNumber m = w.extractLsb' 0 5) :
    s.unpackStatus w = some (unpacked s m w) := by
  rw [State.unpackStatus_eq, ← h, ofBits_modeNumber, Option.map_some]; rfl

theorem unpackStatus_illegal {s : State} {w : Word} (h : ∀ m, modeNumber m ≠ w.extractLsb' 0 5) :
    s.unpackStatus w = none := by
  rw [State.unpackStatus_eq, ofBits_eq_none h, Option.map_none]

theorem unpackStatus_eq_some {s t : State} {w : Word} (h : s.unpackStatus w = some t) :
    ∃ m, modeNumber m = w.extractLsb' 0 5 ∧ t = unpacked s m w := by
  rw [State.unpackStatus_eq] at h
  obtain ⟨m, hm, rfl⟩ := Option.map_eq_some_iff.1 h
  exact ⟨m, (modeNumber_eq m).trans (Mode.bits_of_ofBits hm), rfl⟩

theorem statusFrom_unpacked (s : State) (m : Mode) (w : Word) : StatusFrom (unpacked s m w) w :=
  ⟨rfl, rfl, rfl, rfl, rfl, rfl, rfl⟩

@[simp] theorem unpacked_mode (s : State) (m : Mode) (w : Word) : (unpacked s m w).mode = m := State.switchModeTo_mode s m

@[simp] theorem unpacked_log (s : State) (m : Mode) (w : Word) : (unpacked s m w).log = s.log := switchModeTo_log s m

/-- Beyond the fields it loads, `UnpackStatus` is the mode switch: no mode sees a change. -/
theorem view_unpacked (s : State) (m : Mode) (w : Word) (m' : Mode) (r : Reg) :
    (unpacked s m w).view m' r = s.view m' r := view_switchModeTo s m m' r

theorem viewSpsr_unpacked (s : State) (m : Mode) (w : Word) (m' : Mode) :
    (unpacked s m w).viewSpsr m' = s.viewSpsr m' := viewSpsr_switchModeTo s m m'

theorem sameMemory_unpacked (s : State) (m : Mode) (w : Word) : SameMemory s (unpacked s m w) :=
  sameMemory_switchModeTo s m

/-- `UnpackStatus` reads bits 31:28 and 7:0 alone (D17). -/
theorem unpackStatus_congr (s : State) {w w' : Word} (h : w' &&& 0xF00000FF#32 = w &&& 0xF00000FF#32) :
    s.unpackStatus w' = s.unpackStatus w := by
  have bit : ∀ k, (0xF00000FF#32).getLsbD k = true → w'.getLsbD k = w.getLsbD k := fun k hk => by
    simpa only [BitVec.getLsbD_and, hk, Bool.and_true] using congrArg (BitVec.getLsbD · k) h
  have number : w'.extractLsb' 0 5 = w.extractLsb' 0 5 := by
    refine BitVec.eq_of_getLsbD_eq fun k hk => ?_
    have low : ∀ j : Fin 5, (0xF00000FF#32).getLsbD j = true := by decide
    simp only [BitVec.getLsbD_extractLsb', Nat.zero_add, bit k (low ⟨k, hk⟩)]
  rw [State.unpackStatus_eq, State.unpackStatus_eq, number, bit 5 rfl, bit 6 rfl, bit 7 rfl, bit 28 rfl, bit 29 rfl,
    bit 30 rfl, bit 31 rfl]

/-- The packed current status loads the fields it was packed from, and its mode is the current one. -/
theorem unpackStatus_packStatus (s : State) : s.unpackStatus s.packStatus = some s := by
  obtain ⟨hn, hz, hc, hv, hi, hf, ht⟩ := packStatus_fields s
  rw [unpackStatus_of_mode ((modeNumber_eq s.mode).trans (packStatus_mode s).symm), unpacked, State.switchModeTo_same,
    hn, hz, hc, hv, hi, hf, ht]

/-- Settles O25: what unpacking loads stands in `unpacked`, and the rest of it is a mode switch. -/
theorem unpackStatusLoads : Obligations.UnpackStatusLoads := fun s w =>
  ⟨unpackStatus_packStatus s, unpackStatus_illegal, fun m h =>
    ⟨unpacked s m w, unpackStatus_of_mode h, unpacked_mode s m w, statusFrom_unpacked s m w,
      ⟨fun m' r _ => view_unpacked s m w m' r, viewSpsr_unpacked s m w⟩, sameMemory_unpacked s m w,
      switchModeTo_cycles s m, unpacked_log s m w⟩,
    fun _ => unpackStatus_congr s⟩

end Sys2Proof.Proofs
end

section
/-!
PROOF. The invariant of a step boundary, part by part: a store or an invalidation keeps memory canonical and the cache
coherent with it (R80, R84, R86), and a mode switch and an exception entry keep bits 27:8 of every saved status zero (R35).
-/

namespace Sys2Proof.Proofs

open Sys2Proof.Machine Sys2Proof.Claims

/-! ### Alignment -/

/-- A mask that clears the lowest `n` bits is a shift right and left again. -/
theorem and_mask_eq_shift (a mask : Word) (n : Nat) (h : ∀ k : Fin 32, mask.getLsbD k = decide (n ≤ k.val)) :
    a &&& mask = a >>> n <<< n := by
  refine BitVec.eq_of_getLsbD_eq fun k hk => ?_
  rw [BitVec.getLsbD_and, h ⟨k, hk⟩, BitVec.getLsbD_shiftLeft, BitVec.getLsbD_ushiftRight]
  by_cases hn : n ≤ k
  · simp only [hk, Nat.not_lt.2 hn, Nat.add_sub_of_le hn, decide_true, decide_false, hn, Bool.and_true, Bool.not_false,
      Bool.true_and]
  · simp only [hk, Nat.lt_of_not_le hn, hn, decide_true, decide_false, Bool.and_false, Bool.not_true, Bool.false_and]

theorem toNat_and_mask (a mask : Word) (n : Nat) (h : ∀ k : Fin 32, mask.getLsbD k = decide (n ≤ k.val)) :
    (a &&& mask).toNat = a.toNat / 2 ^ n * 2 ^ n % 2 ^ 32 := by
  rw [and_mask_eq_shift a mask n h, BitVec.toNat_shiftLeft, BitVec.toNat_ushiftRight, Nat.shiftRight_eq_div_pow,
    Nat.shiftLeft_eq]

theorem alignWord_toNat (a : Word) : (alignWord a).toNat = a.toNat / 4 * 4 := by
  have := a.isLt
  rw [alignWord, toNat_and_mask a _ 2 (by decide)]
  omega

theorem alignHalf_toNat (a : Word) : (alignHalf a).toNat = a.toNat / 2 * 2 := by
  have := a.isLt
  rw [alignHalf, toNat_and_mask a _ 1 (by decide)]
  omega

theorem alignWord_add (a : Word) {j : Nat} (hj : j < 4) : alignWord (alignWord a + BitVec.ofNat 32 j) = alignWord a := by
  refine BitVec.eq_of_toNat_eq ?_
  have := a.isLt
  rw [alignWord_toNat, alignWord_toNat, BitVec.toNat_add, BitVec.toNat_ofNat, alignWord_toNat]
  omega

theorem alignHalf_add (a : Word) {j : Nat} (hj : j < 2) : alignHalf (alignHalf a + BitVec.ofNat 32 j) = alignHalf a := by
  refine BitVec.eq_of_toNat_eq ?_
  have := a.isLt
  rw [alignHalf_toNat, alignHalf_toNat, BitVec.toNat_add, BitVec.toNat_ofNat, alignHalf_toNat]
  omega

/-- The address of an ARM cache entry is its own granule. -/
theorem alignWord_key {k : Nat} (hk : k < 2 ^ 32) (h4 : k % 4 = 0) : (alignWord (BitVec.ofNat 32 k)).toNat = k := by
  rw [alignWord_toNat, BitVec.toNat_ofNat]
  omega

/-- The address of a Thumb cache entry is its own granule. -/
theorem alignHalf_key {k : Nat} (hk : k < 2 ^ 32) (h2 : k % 2 = 0) : (alignHalf (BitVec.ofNat 32 k)).toNat = k := by
  rw [alignHalf_toNat, BitVec.toNat_ofNat]
  omega

/-! ### What a fetch reads -/

/-- A word read depends on the four bytes of its granule alone (R69). -/
theorem load32_congr {s t : State} {a : Word} (h : ∀ c, alignWord c = alignWord a → t.byteAt c = s.byteAt c) :
    t.load32 a = s.load32 a := by
  have byte : ∀ j, j < 4 → t.byteAt (alignWord a + BitVec.ofNat 32 j) = s.byteAt (alignWord a + BitVec.ofNat 32 j) :=
    fun j hj => h _ (alignWord_add a hj)
  have byte0 := byte 0 (by decide)
  rw [BitVec.add_zero] at byte0
  simp only [State.load32, State.wordAt, byte0, byte 1 (by decide), byte 2 (by decide), byte 3 (by decide)]

/-- A halfword read depends on the two bytes of its granule alone (R70). -/
theorem loadU16_congr {s t : State} {a : Word} (h : ∀ c, alignHalf c = alignHalf a → t.byteAt c = s.byteAt c) :
    t.loadU16 a = s.loadU16 a := by
  have byte : ∀ j, j < 2 → t.byteAt (alignHalf a + BitVec.ofNat 32 j) = s.byteAt (alignHalf a + BitVec.ofNat 32 j) :=
    fun j hj => h _ (alignHalf_add a hj)
  have byte0 := byte 0 (by decide)
  rw [BitVec.add_zero] at byte0
  simp only [State.loadU16, State.halfAt, byte0, byte 1 (by decide)]

/-! ### Memory and the cache -/

/-- The part of the invariant that speaks of memory and the cache. -/
structure StorageInv (s : State) : Prop where
  memory : Memory.wf s.mem
  armCache : s.armCacheWf
  thumbCache : s.thumbCacheWf
  coherent : s.cacheCoherent

theorem storageInv_of_inv {s : State} (h : s.Inv) : StorageInv s := ⟨h.memory, h.armCache, h.thumbCache, h.coherent⟩

/-- The storage invariant reads memory and the cache alone. -/
theorem storageInv_congr {s t : State} (h : StorageInv s) (hmem : t.mem = s.mem) (harm : t.icacheArm = s.icacheArm)
    (hthumb : t.icacheThumb = s.icacheThumb) : StorageInv t where
  memory := hmem ▸ h.memory
  armCache := by unfold State.armCacheWf; rw [harm]; exact h.armCache
  thumbCache := by unfold State.thumbCacheWf; rw [hthumb]; exact h.thumbCache
  coherent := by
    have same : ∀ c, t.byteAt c = s.byteAt c := State.byteAt_congr hmem
    obtain ⟨arm, thumb⟩ := h.coherent
    refine ⟨fun e he => ?_, fun e he => ?_⟩
    · rw [load32_congr fun c _ => same c]; exact arm e (harm ▸ he)
    · rw [loadU16_congr fun c _ => same c]; exact thumb e (hthumb ▸ he)

theorem storageInv_emptyCache {s : State} (h : Memory.wf s.mem) (harm : s.icacheArm = []) (hthumb : s.icacheThumb = []) :
    StorageInv s where
  memory := h
  armCache := by rw [State.armCacheWf, harm]; exact ⟨List.Pairwise.nil, fun _ h => nomatch h⟩
  thumbCache := by rw [State.thumbCacheWf, hthumb]; exact ⟨List.Pairwise.nil, fun _ h => nomatch h⟩
  coherent := by rw [State.cacheCoherent, harm, hthumb]; exact ⟨fun _ h => (nomatch h), fun _ h => (nomatch h)⟩

/-- An invalidation over every byte that memory has changed in keeps the cache coherent: an entry that stays reads none of
them (R84, R86). -/
theorem storageInv_invalidate {s u : State} (h : StorageInv s) (harm : u.icacheArm = s.icacheArm)
    (hthumb : u.icacheThumb = s.icacheThumb) (hwf : Memory.wf u.mem) {a : Word} {n : Nat}
    (hmem : ∀ c, (∀ j, j < n → c ≠ a + BitVec.ofNat 32 j) → u.byteAt c = s.byteAt c) :
    StorageInv (u.invalidate a n) := by
  obtain ⟨-, ⟨armRising, armKeys⟩, ⟨thumbRising, thumbKeys⟩, arm, thumb⟩ := h
  rw [← harm] at armRising armKeys arm
  rw [← hthumb] at thumbRising thumbKeys thumb
  refine ⟨by rw [State.invalidate_mem]; exact hwf, ⟨State.rising_icacheArm_invalidate a n armRising, fun e he => ?_⟩,
    ⟨State.rising_icacheThumb_invalidate a n thumbRising, fun e he => ?_⟩, fun e he => ?_, fun e he => ?_⟩
  · exact armKeys e (State.mem_icacheArm_invalidate.1 he).1
  · exact thumbKeys e (State.mem_icacheThumb_invalidate.1 he).1
  · obtain ⟨old, away⟩ := State.mem_icacheArm_invalidate.1 he
    obtain ⟨hk, h4⟩ := armKeys e old
    rw [arm e old, ← load32_congr (s := s) (t := u.invalidate a n) fun c hc => ?_]
    rw [State.byteAt_invalidate]
    refine hmem c fun j hj e' => away j hj ?_
    rw [← e', hc, alignWord_key hk h4]
  · obtain ⟨old, away⟩ := State.mem_icacheThumb_invalidate.1 he
    obtain ⟨hk, h2⟩ := thumbKeys e old
    rw [thumb e old, ← loadU16_congr (s := s) (t := u.invalidate a n) fun c hc => ?_]
    rw [State.byteAt_invalidate]
    refine hmem c fun j hj e' => away j hj ?_
    rw [← e', hc, alignHalf_key hk h2]

theorem storageInv_memWrite {s : State} (h : StorageInv s) (w : Width) (a v : Word) : StorageInv (s.memWrite w a v) := by
  have other := s.byteAt_memWrite_other w a v
  have wf := State.memWrite_wf h.memory w a v
  rw [State.memWrite_eq] at other wf ⊢
  simp only [State.byteAt_invalidate, State.invalidate_mem] at other wf
  refine storageInv_invalidate h (State.storeBytes_icacheArm s w a v) (State.storeBytes_icacheThumb s w a v) wf ?_
  exact fun c hc => other c fun ⟨j, hj, e⟩ => hc j hj e

/-- The bytes another agent writes leave every other byte alone. -/
theorem byteAt_setBytes_other (s : State) (a : Word) (bs : List Byte) (c : Word)
    (h : ∀ j, j < bs.length → c ≠ a + BitVec.ofNat 32 j) : (s.setBytes a bs).byteAt c = s.byteAt c := by
  induction bs generalizing s a with
  | nil => rfl
  | cons b rest ih =>
    have first := h 0 (Nat.succ_pos _)
    rw [BitVec.add_zero] at first
    rw [State.setBytes, ih, State.byteAt_setByte, if_neg first]
    intro j hj
    have shift : a + 1#32 + BitVec.ofNat 32 j = a + BitVec.ofNat 32 (j + 1) := by
      rw [BitVec.add_assoc, ← BitVec.ofNat_add, Nat.add_comm]
    rw [shift]
    exact h (j + 1) (Nat.succ_lt_succ hj)

theorem setBytes_cache (s : State) (a : Word) (bs : List Byte) :
    (s.setBytes a bs).icacheArm = s.icacheArm ∧ (s.setBytes a bs).icacheThumb = s.icacheThumb := by
  induction bs generalizing s a with
  | nil => exact ⟨rfl, rfl⟩
  | cons b rest ih => exact ih (s.setByte a b) (a + 1#32)

theorem storageInv_externalWrite {s : State} (h : StorageInv s) (a : Word) (bs : List Byte) :
    StorageInv (s.externalWrite a bs) :=
  storageInv_invalidate h (setBytes_cache s a bs).1 (setBytes_cache s a bs).2 (State.setBytes_wf h.memory a bs)
    (byteAt_setBytes_other s a bs)

/-! ### The fetch -/

/-- The fetch key is a granule of its half of the cache (R80, R82). -/
theorem fetchKey_arm {s : State} (ht : s.t = false) : s.fetchKey.toNat % 4 = 0 := by
  rw [State.fetchKey, if_neg (by simp [ht]), alignWord_toNat]
  omega

theorem getLsbD_zero_eq (a : Word) : a.getLsbD 0 = decide (a.toNat % 2 = 1) := by
  rw [BitVec.getLsbD, Nat.testBit_zero]

theorem fetchKey_thumb {s : State} (ht : s.t = true) (hpc : s.pc.getLsbD 0 = false) : s.fetchKey.toNat % 2 = 0 := by
  rw [getLsbD_zero_eq, decide_eq_false_iff_not] at hpc
  rw [State.fetchKey, if_pos ht, State.fetchAddress, State.width, if_pos ht, BitVec.toNat_sub, BitVec.toNat_ofNat]
  omega

/-- A miss fills the cache with what memory decodes to at its key (R82). -/
theorem storageInv_fetch {s : State} (h : StorageInv s) (hpc : s.pc.getLsbD 0 = false) : StorageInv s.fetch.2 := by
  unfold State.fetch
  cases s.cachedOp with
  | some op => exact h
  | none =>
    obtain ⟨memory, ⟨armRising, armKeys⟩, ⟨thumbRising, thumbKeys⟩, arm, thumb⟩ := h
    have key : BitVec.ofNat 32 s.fetchKey.toNat = s.fetchKey := BitVec.ofNat_toNat _ _
    simp only [State.fillCache]
    split
    · next ht =>
      refine ⟨memory, ⟨armRising, armKeys⟩, ⟨SortedMap.rising_insert _ _ thumbRising, fun e he => ?_⟩, arm,
        fun e he => ?_⟩
      · rcases SortedMap.mem_insert he with rfl | old
        · exact ⟨s.fetchKey.isLt, fetchKey_thumb ht hpc⟩
        · exact thumbKeys e old
      · rcases SortedMap.mem_insert he with rfl | old
        · simp only [State.decodedAtFetch, State.fetchWord, State.execState, ht, if_true, key]; rfl
        · exact thumb e old
    · next ht =>
      refine ⟨memory, ⟨SortedMap.rising_insert _ _ armRising, fun e he => ?_⟩, ⟨thumbRising, thumbKeys⟩,
        fun e he => ?_, thumb⟩
      · rcases SortedMap.mem_insert he with rfl | old
        · exact ⟨s.fetchKey.isLt, fetchKey_arm (Bool.eq_false_iff.2 ht)⟩
        · exact armKeys e old
      · rcases SortedMap.mem_insert he with rfl | old
        · simp only [State.decodedAtFetch, State.fetchWord, State.execState, ht, key]; rfl
        · exact arm e old

/-- Under the invariant a fetch yields what memory decodes to, hit or miss (R86). -/
theorem fetch_op_of_storageInv {s : State} (h : StorageInv s) : s.fetch.1 = s.decodedAtFetch := by
  refine State.fetch_op s fun op hop => ?_
  obtain ⟨arm, thumb⟩ := h.coherent
  have key : BitVec.ofNat 32 s.fetchKey.toNat = s.fetchKey := BitVec.ofNat_toNat _ _
  unfold State.cachedOp at hop
  split at hop
  · next ht =>
    refine (thumb _ (SortedMap.mem_of_find hop)).trans ?_
    rw [key, State.decodedAtFetch, State.fetchWord, State.execState, if_pos ht, if_pos ht]
  · next ht =>
    refine (arm _ (SortedMap.mem_of_find hop)).trans ?_
    rw [key, State.decodedAtFetch, State.fetchWord, State.execState, if_neg ht, if_neg ht]

/-! ### The saved statuses (R35, R40) -/

theorem statusReservedClear_iff (w : Word) :
    statusReservedClear w = true ↔ ∀ k, 8 ≤ k → k < 28 → w.getLsbD k = false := by
  have mask : ∀ k : Fin 32, (0x0FFFFF00#32).getLsbD k = decide (8 ≤ k.val ∧ k.val < 28) := by decide
  rw [statusReservedClear, beq_iff_eq]
  constructor
  · intro h k h8 h28
    have bit := congrArg (BitVec.getLsbD · k) h
    simpa only [BitVec.getLsbD_and, mask ⟨k, by omega⟩, h8, h28, and_self, decide_true, Bool.and_true,
      BitVec.getLsbD_zero] using bit
  · intro h
    refine BitVec.eq_of_getLsbD_eq fun k hk => ?_
    rw [BitVec.getLsbD_and, mask ⟨k, hk⟩, BitVec.getLsbD_zero]
    by_cases hr : 8 ≤ k ∧ k < 28
    · rw [h k hr.1 hr.2, Bool.false_and]
    · simp [hr]

theorem statusReservedClear_packStatus (s : State) : statusReservedClear s.packStatus = true :=
  (statusReservedClear_iff _).2 (packStatus_reserved s)

/-- MSR to the saved status writes no reserved bit (R319). -/
theorem statusReservedClear_msr {w : Word} (h : statusReservedClear w = true) (mask : FieldMask) (op : Word) :
    statusReservedClear ((w &&& ~~~savedStatusMask mask) ||| (op &&& savedStatusMask mask)) = true := by
  rw [statusReservedClear_iff] at h ⊢
  have outside : ∀ f c, ∀ k : Fin 32, 8 ≤ k.val → k.val < 28 →
      (savedStatusMask ⟨f, false, false, c⟩).getLsbD k = false := by decide
  intro k h8 h28
  have off : (savedStatusMask mask).getLsbD k = false := outside mask.f mask.c ⟨k, by omega⟩ h8 h28
  rw [BitVec.getLsbD_or, BitVec.getLsbD_and, BitVec.getLsbD_and, h k h8 h28, off, Bool.false_and, Bool.and_false,
    Bool.or_false]

/-- Every bank's saved status, live or stored, has its reserved bits zero. -/
theorem reserved_bankView {s : State} (h : s.savedStatusReserved) (b : Bank) :
    statusReservedClear (bankView s b).spsr = true := by
  unfold bankView
  split
  · exact h.1
  · exact h.2 b

theorem reserved_switchModeTo {s : State} (h : s.savedStatusReserved) (m : Mode) :
    (s.switchModeTo m).savedStatusReserved := by
  refine ⟨?_, fun b => ?_⟩
  · rw [spsr_switchModeTo, viewSpsr_eq]; exact reserved_bankView h _
  · rw [shadow_switchModeTo]
    split
    · exact h.2 b
    · rw [shadow_get_set]
      split
      · exact h.1
      · exact h.2 b

end Sys2Proof.Proofs
end

section
/-!
PROOF. What a word decodes to is well-formed (spec/30_encoding.md R104, R109, R115, R139): the four tests have S = 1, the
post-indexed transfers have the W of their row, and a 3-bit register field names a low register.
-/

namespace Sys2Proof.Proofs

open Sys2Proof.Machine Sys2Proof.Claims

/-! ### The 32-bit decoder -/

theorem dpImmInstr_wellFormed (op : DpOp) (f : DpImm) : (dpImmInstr op f).wellFormed = (!dpIsTest op || f.s) := by
  cases op <;> rfl

theorem dpRegImmInstr_wellFormed (op : DpOp) (f : DpRegImm) :
    (dpRegImmInstr op f).wellFormed = (!dpIsTest op || f.s) := by
  cases op <;> rfl

theorem dpRegRegInstr_wellFormed (op : DpOp) (f : DpRegReg) :
    (dpRegRegInstr op f).wellFormed = (!dpIsTest op || f.s) := by
  cases op <;> rfl

/-- The four tests are the opcodes 10xx (R104). -/
theorem dpIsTest_ofBits (b : BitVec 4) : dpIsTest (DpOp.ofBits b) = (b.extractLsb' 2 2 == 0b10#2) := by
  revert b; decide

/-- Outside the status-register space a test has S = 1 (step 2b of R115). -/
theorem decodeDataProcessing_wellFormed {w : Word} (h : ¬ (w.extractLsb' 23 2 == 0b10#2 && !w.getLsbD 20) = true) :
    (decodeDataProcessing w).wellFormed = true := by
  have opcode : (w.extractLsb' 21 4).extractLsb' 2 2 = w.extractLsb' 23 2 := by
    refine BitVec.eq_of_getLsbD_eq fun k hk => ?_
    have : 2 + k < 4 := by omega
    simp only [BitVec.getLsbD_extractLsb', this, decide_true, Bool.true_and, ← Nat.add_assoc]
  have test : (!dpIsTest (DpOp.ofBits (w.extractLsb' 21 4)) || w.getLsbD 20) = true := by
    rw [dpIsTest_ofBits, opcode]
    revert h
    cases w.extractLsb' 23 2 == 0b10#2 <;> cases w.getLsbD 20 <;> decide
  unfold decodeDataProcessing
  simp only
  split
  · exact (dpImmInstr_wellFormed _ _).trans test
  · split
    · exact (dpRegRegInstr_wellFormed _ _).trans test
    · exact (dpRegImmInstr_wellFormed _ _).trans test

/-- In the post-indexed rows bit 21 is W (R109). -/
theorem decodeSdtImm_wellFormed (w : Word) : (decodeSdtImm w).wellFormed = true := by
  unfold decodeSdtImm
  simp only
  split <;> simp_all [Instr.wellFormed, sdtImmOf]

theorem decodeSdtReg_wellFormed (w : Word) : (decodeSdtReg w).wellFormed = true := by
  unfold decodeSdtReg
  simp only
  split <;> simp_all [Instr.wellFormed, sdtRegOf]

/-- Every field of the multiply, swap and halfword space is free. -/
theorem decodeExtension_wellFormed {w : Word} {i : Instr} (h : decodeExtension w = some i) : i.wellFormed = true := by
  unfold decodeExtension at h
  repeat' split at h
  all_goals cases h
  all_goals rfl

/-- Every field of the status-register space is free. -/
theorem decodePsr_wellFormed {w : Word} {i : Instr} (h : decodePsr w = some i) : i.wellFormed = true := by
  unfold decodePsr at h
  repeat' split at h
  all_goals cases h
  all_goals rfl

theorem decodeArm_wellFormed {w : Word} {i : Instr} (h : decodeArm w = some i) : i.wellFormed = true := by
  unfold decodeArm at h
  split at h
  · cases h
  split at h
  · cases h; rfl
  split at h
  · split at h
    · exact decodeExtension_wellFormed h
    · split at h
      · exact decodePsr_wellFormed h
      · next notPsr => cases h; exact decodeDataProcessing_wellFormed notPsr
  split at h
  · split at h
    · cases h; exact decodeSdtImm_wellFormed w
    · split at h
      · cases h
      · cases h; exact decodeSdtReg_wellFormed w
  repeat' split at h
  all_goals cases h
  all_goals rfl

/-! ### The 16-bit decoder -/

/-- A 3-bit register field names a low register (R22). -/
@[simp] theorem isLow_lowRegAt (h : Half) (lo : Nat) : Reg.isLow (lowRegAt h lo) = true := by
  unfold Reg.isLow lowRegAt
  rw [BitVec.getLsbD_append]
  rfl

theorem decodeFormat1and2_wellFormed (h : Half) : (decodeFormat1and2 h).wellFormed = true := by
  unfold decodeFormat1and2
  repeat' split
  all_goals simp [Instr.wellFormed, tShiftOf]

theorem decodeFormat3_wellFormed (h : Half) : (decodeFormat3 h).wellFormed = true := by
  unfold decodeFormat3
  split <;> simp [Instr.wellFormed, tImm8Of]

theorem decodeFormat4_wellFormed (h : Half) : (decodeFormat4 h).wellFormed = true := by
  unfold decodeFormat4
  simp only
  split <;> simp [Instr.wellFormed, tAluOf]

theorem decodeFormat5_wellFormed {h : Half} {i : Instr} (hi : decodeFormat5 h = some i) : i.wellFormed = true := by
  unfold decodeFormat5 at hi
  repeat' split at hi
  all_goals cases hi
  all_goals rfl

theorem decodeFormat7and8_wellFormed (h : Half) : (decodeFormat7and8 h).wellFormed = true := by
  unfold decodeFormat7and8
  simp only
  split <;> simp [Instr.wellFormed, tRegOffOf]

theorem decodeFormat9_wellFormed (h : Half) : (decodeFormat9 h).wellFormed = true := by
  unfold decodeFormat9
  split <;> simp [Instr.wellFormed, tImmOffOf]

theorem decodeFormat13and14_wellFormed {h : Half} {i : Instr} (hi : decodeFormat13and14 h = some i) :
    i.wellFormed = true := by
  unfold decodeFormat13and14 at hi
  repeat' split at hi
  all_goals cases hi
  all_goals rfl

theorem decodeFormat16and17_wellFormed {h : Half} {i : Instr} (hi : decodeFormat16and17 h = some i) :
    i.wellFormed = true := by
  unfold decodeFormat16and17 at hi
  split at hi <;> cases hi <;> rfl

/-- What follows from both answers of a test of the decoder follows from the test's. -/
theorem of_ite_eq_some {c : Prop} [Decidable c] {a b : Option Instr} {i : Instr} {P : Prop} (ha : a = some i → P)
    (hb : b = some i → P) (h : (if c then a else b) = some i) : P := by
  split at h
  · exact ha h
  · exact hb h

theorem wellFormed_of_some {i j : Instr} (hj : j.wellFormed = true) (h : some j = some i) : i.wellFormed = true := by
  cases h; exact hj

theorem decodeThumb_wellFormed {h : Half} {i : Instr} (hi : decodeThumb h = some i) : i.wellFormed = true := by
  unfold decodeThumb at hi
  revert hi
  refine of_ite_eq_some (wellFormed_of_some (decodeFormat1and2_wellFormed h)) ?_
  refine of_ite_eq_some (wellFormed_of_some (decodeFormat3_wellFormed h)) ?_
  refine of_ite_eq_some (wellFormed_of_some (decodeFormat4_wellFormed h)) ?_
  refine of_ite_eq_some decodeFormat5_wellFormed ?_
  refine of_ite_eq_some (wellFormed_of_some (by simp [Instr.wellFormed, tRdWord8Of])) ?_
  refine of_ite_eq_some (wellFormed_of_some (decodeFormat7and8_wellFormed h)) ?_
  refine of_ite_eq_some (wellFormed_of_some (decodeFormat9_wellFormed h)) ?_
  refine of_ite_eq_some (of_ite_eq_some (wellFormed_of_some (by simp [Instr.wellFormed, tImmOffOf]))
    (wellFormed_of_some (by simp [Instr.wellFormed, tImmOffOf]))) ?_
  refine of_ite_eq_some (of_ite_eq_some (wellFormed_of_some (by simp [Instr.wellFormed, tRdWord8Of]))
    (wellFormed_of_some (by simp [Instr.wellFormed, tRdWord8Of]))) ?_
  refine of_ite_eq_some (of_ite_eq_some (wellFormed_of_some (by simp [Instr.wellFormed, tRdWord8Of]))
    (wellFormed_of_some (by simp [Instr.wellFormed, tRdWord8Of]))) ?_
  refine of_ite_eq_some decodeFormat13and14_wellFormed ?_
  refine of_ite_eq_some (of_ite_eq_some (wellFormed_of_some (by simp [Instr.wellFormed, tBlockOf]))
    (wellFormed_of_some (by simp [Instr.wellFormed, tBlockOf]))) ?_
  refine of_ite_eq_some decodeFormat16and17_wellFormed ?_
  refine of_ite_eq_some (wellFormed_of_some rfl) ?_
  refine of_ite_eq_some nofun ?_
  exact of_ite_eq_some (wellFormed_of_some rfl) (wellFormed_of_some rfl)

/-- A decoded operation that is an instruction is well-formed and carries its write-PC flag (R101, R140). -/
theorem decodeOp_instr {w : Word} {st : ExecState} {i : Instr} (h : (decodeOp w st).kind = .instr i) :
    i.wellFormed = true ∧ (decodeOp w st).writesPC = i.writesPC := by
  cases st with
  | arm =>
    unfold decodeOp at h ⊢
    cases hd : decodeArm w with
    | none => simp only [hd] at h; cases h
    | some j =>
      simp only [hd] at h ⊢
      cases h
      exact ⟨decodeArm_wellFormed hd, rfl⟩
  | thumb =>
    unfold decodeOp at h ⊢
    cases hd : decodeThumb (w.extractLsb' 0 16) with
    | none => simp only [hd] at h; cases h
    | some j =>
      simp only [hd] at h ⊢
      cases h
      exact ⟨decodeThumb_wellFormed hd, rfl⟩

end Sys2Proof.Proofs
end

section
/-!
PROOF. What every instruction keeps: the storage invariant, the reserved bits of the saved statuses, and, where it cannot
write the PC, `x[15]`. One lemma per shared operation, then the instructions by the operation each runs.
-/

namespace Sys2Proof.Proofs

open Sys2Proof.Machine Sys2Proof.Claims

/-! ### Keeping the invariant of storage and of the saved statuses -/

/-- What holds of storage and of the saved statuses before holds of them after. -/
structure Kept (s t : State) : Prop where
  storage : StorageInv s → StorageInv t
  reserved : s.savedStatusReserved → t.savedStatusReserved

theorem Kept.refl (s : State) : Kept s s := ⟨id, id⟩

theorem Kept.trans {s t u : State} (h : Kept s t) (k : Kept t u) : Kept s u :=
  ⟨k.storage ∘ h.storage, k.reserved ∘ h.reserved⟩

/-- A change outside memory, the cache and the saved statuses keeps both. -/
theorem Kept.of_frame {s t : State} (hmem : t.mem = s.mem := by rfl) (harm : t.icacheArm = s.icacheArm := by rfl)
    (hthumb : t.icacheThumb = s.icacheThumb := by rfl) (hspsr : t.spsr = s.spsr := by rfl)
    (hshadow : ∀ b, (t.shadow.get b).spsr = (s.shadow.get b).spsr := by exact fun _ => rfl) : Kept s t where
  storage h := storageInv_congr h hmem harm hthumb
  reserved h := by
    refine ⟨hspsr ▸ h.1, fun b => ?_⟩
    rw [hshadow b]
    exact h.2 b

theorem reserved_onlyMemory {s t : State} (h : s.savedStatusReserved) (only : s.OnlyMemory t) : t.savedStatusReserved := by
  obtain ⟨hspsr, hshadow, -⟩ := only.banks
  unfold State.savedStatusReserved
  rw [hspsr, hshadow]
  exact h

theorem kept_memWrite (s : State) (w : Width) (a v : Word) : Kept s (s.memWrite w a v) where
  storage h := storageInv_memWrite h w a v
  reserved h := reserved_onlyMemory h (s.onlyMemory_memWrite w a v)

theorem kept_blockStore (s : State) (vs : List Word) (a : Word) : Kept s (s.blockStore vs a) := by
  induction vs generalizing s a with
  | nil => exact Kept.refl s
  | cons v rest ih => exact (kept_memWrite s .word (alignWord a) v).trans (ih _ _)

theorem kept_switchModeTo (s : State) (m : Mode) : Kept s (s.switchModeTo m) where
  storage h := storageInv_congr h (switchModeTo_mem s m) (switchModeTo_icacheArm s m) (switchModeTo_icacheThumb s m)
  reserved h := reserved_switchModeTo h m

/-- An exception entry saves a packed status, whose reserved bits are zero. -/
theorem kept_takeException (s : State) (m : Mode) (ret target : Word) : Kept s (s.takeException m ret target) := by
  rw [State.takeException_eq]
  refine ⟨fun h => storageInv_congr h rfl rfl rfl, fun h => ⟨statusReservedClear_packStatus s, ?_⟩⟩
  exact (reserved_switchModeTo h m).2

/-! ### Operations -/

/-- What an operation that returned does: it keeps the two invariants and `condPassed`, and `x[15]` unless it may write the
PC. -/
structure Operated (writesPC : Bool) (s t : State) : Prop where
  kept : Kept s t
  pc : writesPC = false → t.pc = s.pc
  condPassed : t.condPassed = s.condPassed

variable {w : Bool} {s t u : State}

theorem Operated.refl (w : Bool) (s : State) : Operated w s s := ⟨Kept.refl s, fun _ => rfl, rfl⟩

theorem Operated.trans (h : Operated w s t) (k : Operated w t u) : Operated w s u :=
  ⟨h.kept.trans k.kept, fun hw => (k.pc hw).trans (h.pc hw), k.condPassed.trans h.condPassed⟩

/-- A change of flags, control bits, timing or the log. -/
theorem Operated.of_frame (hpc : t.pc = s.pc := by rfl) (hmem : t.mem = s.mem := by rfl)
    (harm : t.icacheArm = s.icacheArm := by rfl) (hthumb : t.icacheThumb = s.icacheThumb := by rfl)
    (hspsr : t.spsr = s.spsr := by rfl)
    (hshadow : ∀ b, (t.shadow.get b).spsr = (s.shadow.get b).spsr := by exact fun _ => rfl)
    (hcond : t.condPassed = s.condPassed := by rfl) : Operated w s t :=
  ⟨Kept.of_frame hmem harm hthumb hspsr hshadow, fun _ => hpc, hcond⟩

theorem operated_setReg (s : State) {r : Reg} (v : Word) (h : r = Reg.pc → w = true) : Operated w s (s.setReg r v) where
  kept := Kept.of_frame
  pc hw := State.pc_setReg_ne s v fun e => by simp [h e.symm] at hw
  condPassed := rfl

theorem operated_setPc (s : State) (v : Word) (h : w = true) : Operated w s (s.setPc v) := operated_setReg s v fun _ => h

theorem operated_setFlags (s : State) (op : DpOp) (r : AluResult) (k : Bool) : Operated w s (s.setFlags op r k) := by
  rw [State.setFlags_eq]; exact .of_frame

theorem operated_memWrite (s : State) (width : Width) (a v : Word) : Operated w s (s.memWrite width a v) where
  kept := kept_memWrite s width a v
  pc _ := State.pc_congr (s.onlyMemory_memWrite width a v).x
  condPassed := (s.onlyMemory_memWrite width a v).timing.2.2

theorem operated_blockStore (s : State) (vs : List Word) (a : Word) : Operated w s (s.blockStore vs a) where
  kept := kept_blockStore s vs a
  pc _ := State.pc_congr (s.onlyMemory_blockStore a vs).x
  condPassed := (s.onlyMemory_blockStore a vs).timing.2.2

theorem operated_blockCost (s : State) (n : Nat) (a : Word) (sq : Bool) : Operated w s (s.blockCost n a sq) := by
  rw [State.blockCost_eq]; exact .of_frame

theorem operated_setUserReg (s : State) {r : Reg} (v : Word) (h : r ≠ Reg.pc) : Operated w s (s.setUserReg r v) := by
  have live : Operated w s (s.setReg r v) := operated_setReg s v fun e => absurd e h
  unfold State.setUserReg
  split
  · split
    · exact .of_frame
    · exact live
  · split
    · split
      · exact live
      · exact .of_frame (hshadow := fun b => by cases b <;> rfl)
    · split
      · split
        · exact live
        · exact .of_frame (hshadow := fun b => by cases b <;> rfl)
      · exact live

/-- A block load leaves register 15 to its caller. -/
theorem operated_writeLoaded (s : State) (data : List (Reg × Word)) (user : Bool) :
    Operated w s (s.writeLoaded data user) := by
  induction data generalizing s with
  | nil => exact .refl w s
  | cons d rest ih =>
    refine Operated.trans ?_ (ih (s.writeLoadedOne user d))
    unfold State.writeLoadedOne
    split
    · exact .refl w s
    · next h =>
      split
      · exact operated_setUserReg s d.2 h
      · exact operated_setReg s d.2 fun e => absurd e h

theorem operated_switchModeTo (s : State) (m : Mode) : Operated w s (s.switchModeTo m) where
  kept := kept_switchModeTo s m
  pc _ := reg_switchModeTo_shared s m (r := Reg.pc) (by decide) (by decide) (by decide)
  condPassed := switchModeTo_condPassed s m

/-- An operation that returned, and then maybe another. -/
theorem Operated.ite {c : Prop} [Decidable c] (h : Operated w s t) (k : c → Operated w t u) :
    Operated w s (if c then u else t) := by
  split
  · next hc => exact h.trans (k hc)
  · exact h

/-- The write-back of a base register (R276, R303). -/
theorem operated_writeBack (s : State) {wb : Bool} {rn : Reg} (v : Word) (h : (wb && rn == Reg.pc) = true → w = true) :
    Operated w s (if wb then s.setReg rn v else s) :=
  (Operated.refl w s).ite fun hb => operated_setReg s v fun e => h (by simp [hb, e])

/-! ### Results -/

/-- What an operation may answer: a state it operated to, or a fault that leaves one that keeps the invariants. -/
def Does (w : Bool) (s : State) : Result → Prop
  | .next t => Operated w s t
  | .fault e => Kept s e.left
  | .refused _ => True

theorem Does.of_operated {r : Result} (h : Operated w s t) (k : Does w t r) : Does w s r :=
  match r, k with
  | .next _, k => h.trans k
  | .fault _, k => h.kept.trans k
  | .refused _, _ => trivial

theorem Does.andThen {r : Result} {k : State → Result} (h : Does w s r) (hk : ∀ t, Does w t (k t)) :
    Does w s (r.andThen k) :=
  match r, h with
  | .next t, h => Does.of_operated h (hk t)
  | .fault _, h => h
  | .refused _, _ => trivial

/-! ### The shared operations -/

theorem operated_unpacked (s : State) (m : Mode) (v : Word) : Operated w s (unpacked s m v) :=
  (operated_switchModeTo s m).trans .of_frame

theorem returnFromException_does (s : State) (target : Word) : Does true s (s.returnFromException target) := by
  rcases s.returnFromException_cases target with ⟨-, e⟩ | ⟨-, -, e⟩ | ⟨t, -, hu, e⟩ <;> rw [e]
  · exact Kept.refl s
  · exact Kept.refl s
  · obtain ⟨m, -, rfl⟩ := unpackStatus_eq_some hu
    exact (operated_unpacked s m s.spsr).trans (operated_setPc _ target rfl)

theorem softwareInterruptEntry_operated (s : State) : Operated true s s.softwareInterruptEntry where
  kept := kept_takeException s .svc _ _
  pc h := nomatch h
  condPassed := by unfold State.softwareInterruptEntry; rw [State.takeException_eq]

/-- Data processing writes the PC only where it writes its Rd (R211, R213). -/
theorem dataProcessingBody_does (op : DpOp) (setS : Bool) (rn rd : Reg) (form : Operand2) (s : State)
    (h : dpIsTest op = false → rd = Reg.pc → w = true) : Does w s (dataProcessingBody op setS rn rd form s) := by
  have shifted : Operated w s (s.shifted form) := .of_frame
  rw [dataProcessingBody_eq]
  split
  · exact shifted.trans (operated_setFlags _ _ _ _)
  · next notTest =>
    have h := h (Bool.eq_false_iff.2 notTest)
    split
    · next hrd =>
      obtain rfl := h hrd
      split
      · exact Does.of_operated shifted (returnFromException_does _ _)
      · exact shifted.trans (operated_setPc _ _ rfl)
    · exact (shifted.trans (operated_setReg _ _ h)).ite fun _ => operated_setFlags _ _ _ _

theorem branchExchange_operated (s : State) (v : Word) : Operated true s (s.branchExchange v) :=
  (Operated.of_frame (t := { s with t := v.getLsbD 0 })).trans (operated_setPc _ v rfl)

theorem loadSingle_operated (s : State) (kind : LoadKind) (a : TransferAddress) (rn rd : Reg)
    (h : (rd == Reg.pc || (a.wback && rn == Reg.pc)) = true → w = true) : Operated w s (s.loadSingle kind a rn rd) := by
  have hrd : rd = Reg.pc → w = true := fun e => h (by simp [e])
  have hrn : (a.wback && rn == Reg.pc) = true → w = true := fun e => h (by simp [e])
  have cost : Operated w s (s.dataCost kind.width false a.addr) := .of_frame
  have base := cost.trans (operated_writeBack _ a.offaddr hrn)
  exact (base.trans (operated_setReg _ _ hrd)).trans .of_frame

theorem storeSingle_operated (s : State) (width : Width) (a : TransferAddress) (rn : Reg) (v : Word)
    (h : (a.wback && rn == Reg.pc) = true → w = true) : Operated w s (s.storeSingle width a rn v) :=
  have write := (operated_memWrite s width a.addr v).trans (.of_frame (t := State.dataCost _ width false a.addr))
  write.trans (operated_writeBack _ a.offaddr h)

theorem swap_operated (s : State) (kind : LoadKind) (width : Width) (f : SwpForm)
    (h : (f.rd == Reg.pc) = true → w = true) : Operated w s (s.swap kind width f) := by
  have hrd : f.rd = Reg.pc → w = true := fun e => h (by simp [e])
  have cost : Operated w s (s.dataCost width false (s.reg f.rn)) := .of_frame
  have write := cost.trans (operated_memWrite _ width (s.reg f.rn) (s.storedReg f.rm))
  have cost' := write.trans (.of_frame (t := State.dataCost _ width false (s.reg f.rn)))
  exact (cost'.trans (operated_setReg _ _ hrd)).trans .of_frame

/-- A block load writes the PC where register 15 is listed, or is the base written back (R303). -/
theorem loadMultiple_does (f : BdtForm) (s : State)
    (h : (f.rlist.getLsbD 15 || (f.w && f.rn == Reg.pc)) = true → w = true) : Does w s (loadMultiple f s) := by
  have hlisted : f.rlist.getLsbD 15 = true → w = true := fun e => h (by rw [e, Bool.true_or])
  have hrn : (f.w && f.rn == Reg.pc) = true → w = true := fun e => h (by rw [e, Bool.or_true])
  have loaded (n : Nat) (a v : Word) (data : List (Reg × Word)) (user : Bool) :=
    ((operated_blockCost (w := w) s n a false).trans (operated_writeBack _ v hrn)).trans
      (operated_writeLoaded _ data user)
  unfold loadMultiple
  split
  · trivial
  simp only
  split
  · exact Kept.refl s
  split
  · next restore =>
    obtain rfl := hlisted (Bool.and_eq_true_iff.1 restore).2
    exact Does.andThen (Does.of_operated (loaded _ _ _ _ _) (returnFromException_does _ _)) fun t => Operated.of_frame
  · split
    · next listed => exact ((loaded _ _ _ _ _).trans (operated_setPc _ _ (hlisted listed))).trans .of_frame
    · exact (loaded _ _ _ _ _).trans .of_frame

theorem storeMultiple_does (f : BdtForm) (s : State) (h : (f.w && f.rn == Reg.pc) = true → w = true) :
    Does w s (storeMultiple f s) := by
  unfold storeMultiple
  split
  · trivial
  · exact ((operated_blockStore s _ _).trans (operated_blockCost _ _ _ _)).trans (operated_writeBack _ _ h)

theorem moveFromStatus_does (f : MrsForm) (s : State) (h : (f.rd == Reg.pc) = true → w = true) :
    Does w s (moveFromStatus f s) := by
  have write (v : Word) : Operated w s (s.setReg f.rd v) := operated_setReg s v fun e => h (by simp [e])
  unfold moveFromStatus
  split
  · split
    · exact write s.spsr
    · exact Kept.refl s
  · exact write s.packStatus

/-- MSR writes no reserved bit of the saved status, and switches the mode as `SwitchMode` does (R318, R319). -/
theorem moveToStatus_does (r : Bool) (mask : FieldMask) (op : Word) (s : State) :
    Does w s (moveToStatus r mask op s) := by
  unfold moveToStatus
  split
  · split
    · exact ⟨⟨fun h => storageInv_congr h rfl rfl rfl, fun h => ⟨statusReservedClear_msr h.1 mask op, h.2⟩⟩,
        fun _ => rfl, rfl⟩
    · exact Kept.refl s
  · cases hu : s.writeControl mask op with
    | none => exact Kept.refl s
    | some u =>
      have control : Operated w s u := by
        unfold State.writeControl at hu
        split at hu
        · rw [State.switchMode_eq, Option.map_map] at hu
          obtain ⟨m, -, rfl⟩ := Option.map_eq_some_iff.1 hu
          exact (operated_switchModeTo s m).trans .of_frame
        · cases hu; exact .refl w s
      refine control.trans ?_
      unfold State.writeFlagsField
      split
      · exact .of_frame
      · exact .refl w u

/-! ### The 16-bit operations -/

theorem writeArithmetic_operated (s : State) {rd : Reg} (r : AluResult) (h : rd = Reg.pc → w = true) :
    Operated w s (s.writeArithmetic rd r) := (operated_setReg s r.value h).trans .of_frame

theorem writeLogical_operated (s : State) {rd : Reg} (v : Word) (h : rd = Reg.pc → w = true) :
    Operated w s (s.writeLogical rd v) := (operated_setReg s v h).trans .of_frame

theorem writeShifted_operated (s : State) {rd : Reg} (sh : Shifted) (h : rd = Reg.pc → w = true) :
    Operated w s (s.writeShifted rd sh) := (operated_setReg s sh.value h).trans .of_frame

theorem push_does (f : TPushPop) (s : State) : Does w s (push f s) := by
  unfold push
  simp only
  split
  · trivial
  · exact ((operated_blockStore s _ _).trans (operated_blockCost _ _ _ _)).trans (operated_setReg _ _ nofun)

theorem pop_does (f : TPushPop) (s : State) (h : f.r = true → w = true) : Does w s (pop f s) := by
  unfold pop
  simp only
  split
  · trivial
  · refine Operated.trans (t := State.setReg _ Reg.sp _) (Operated.trans ?_ (operated_setReg _ _ nofun)) .of_frame
    exact ((operated_blockCost s _ _ false).trans (operated_writeLoaded _ _ false)).ite fun hr => operated_setPc _ _ (h hr)

theorem thumbStoreMultiple_does (f : TBlock) (s : State) (h : f.rb = Reg.pc → w = true) :
    Does w s (thumbStoreMultiple f s) := by
  unfold thumbStoreMultiple
  simp only
  split
  · trivial
  · exact ((operated_blockStore s _ _).trans (operated_blockCost _ _ _ _)).trans (operated_setReg _ _ h)

theorem thumbLoadMultiple_does (f : TBlock) (s : State) (h : f.rb = Reg.pc → w = true) :
    Does w s (thumbLoadMultiple f s) := by
  unfold thumbLoadMultiple
  simp only
  split
  · trivial
  · exact (((operated_blockCost s _ _ false).trans (operated_setReg _ _ h)).trans (operated_writeLoaded _ _ false)).trans
      .of_frame

/-! ### Instructions -/

/-- What an instruction may answer from a state with `condPassed` set: as `Does`, where a failed condition clears
`condPassed` and leaves `x[15]` alone. -/
def InstrDoes (w : Bool) (s : State) : Result → Prop
  | .next t => Kept s t ∧ (w = false ∨ t.condPassed = false → t.pc = s.pc)
  | .fault e => Kept s e.left
  | .refused _ => True

theorem InstrDoes.of_does {r : Result} (hc : s.condPassed = true) (h : Does w s r) : InstrDoes w s r :=
  match r, h with
  | .next _, h => ⟨h.kept, fun k => h.pc (k.resolve_right (by simp [h.condPassed, hc]))⟩
  | .fault _, h => h
  | .refused _, _ => trivial

/-- An instruction that charges its fetch first. -/
theorem InstrDoes.of_fetched {r : Result} (hc : s.condPassed = true) (h : Does w s.fetchCost r) : InstrDoes w s r :=
  .of_does hc (Does.of_operated (t := s.fetchCost) .of_frame h)

/-- An instruction behind the prologue (R156). -/
theorem InstrDoes.of_prologue {c : Cond} {body : State → Result} (hc : s.condPassed = true) (h : ∀ u, Does w u (body u)) :
    InstrDoes w s (s.prologue c body) := by
  rcases s.prologue_cases c body with ⟨-, e⟩ | ⟨-, e⟩ <;> rw [e]
  · exact .of_fetched hc (h s.fetchCost)
  · exact ⟨.of_frame, fun _ => rfl⟩

theorem multiply_does (acc : Bool) (f : MulForm) (hc : s.condPassed = true) (h : (f.rd == Reg.pc) = true → w = true) :
    InstrDoes w s (multiply acc f s) := by
  have hrd : f.rd = Reg.pc → w = true := fun e => h (beq_iff_eq.2 e)
  have cycles (u : State) (k : Nat) : Operated w u (u.internalCycles k) := .of_frame
  refine .of_prologue hc fun u => ?_
  exact ((cycles u _).trans (operated_setReg _ _ hrd)).ite fun _ => .of_frame

theorem multiplyLong_does (product : Word → Word → BitVec 64) (cycles : Word → Nat) (acc : Bool) (f : MulLong)
    (hc : s.condPassed = true) (h : (f.rdHi == Reg.pc || f.rdLo == Reg.pc) = true → w = true) :
    InstrDoes w s (multiplyLong product cycles acc f s) := by
  have hlo : f.rdLo = Reg.pc → w = true := fun e => h (by simp [e])
  have hhi : f.rdHi = Reg.pc → w = true := fun e => h (by simp [e])
  have charge (u : State) (k : Nat) : Operated w u (u.internalCycles k) := .of_frame
  refine .of_prologue hc fun u => ?_
  exact (((charge u _).trans (operated_setReg _ _ hlo)).trans (operated_setReg _ _ hhi)).ite fun _ => .of_frame

/-- A register that a 3-bit field names is not the PC. -/
theorem ne_pc_of_isLow {r : Reg} (h : Reg.isLow r = true) : r = Reg.pc → w = true := by rintro rfl; cases h

theorem ne_pc_of_isLow_last {b : Bool} {r : Reg} (h : (b && Reg.isLow r) = true) : r = Reg.pc → w = true :=
  ne_pc_of_isLow (Bool.and_eq_true_iff.1 h).2

/-- A 16-bit load writes its Rd and no base. -/
theorem thumbLoad_operated (s : State) (kind : LoadKind) (a : Word) {rd : Reg} (h : rd = Reg.pc → w = true) :
    Operated w s (s.thumbLoad kind a rd) :=
  loadSingle_operated s kind (plainAddress a) rd rd (by simpa [plainAddress] using h)

/-- What every well-formed instruction may answer, by the operation it runs. -/
theorem exec_does {i : Instr} (hw : i.wellFormed = true) (hc : s.condPassed = true) :
    InstrDoes i.writesPC s (exec i s) := by
  cases i with
  | andImm f | eorImm f | subImm f | rsbImm f | addImm f | adcImm f | sbcImm f | rscImm f | orrImm f | movImm f
  | bicImm f | mvnImm f | andRegImm f | eorRegImm f | subRegImm f | rsbRegImm f | addRegImm f | adcRegImm f
  | sbcRegImm f | rscRegImm f | orrRegImm f | movRegImm f | bicRegImm f | mvnRegImm f | andRegReg f | eorRegReg f
  | subRegReg f | rsbRegReg f | addRegReg f | adcRegReg f | sbcRegReg f | rscRegReg f | orrRegReg f | movRegReg f
  | bicRegReg f | mvnRegReg f =>
    unfold exec
    refine .of_prologue hc fun u => ?_
    exact dataProcessingBody_does _ f.s f.rn f.rd _ u fun _ h => beq_iff_eq.2 h
  | tstImm f | teqImm f | cmpImm f | cmnImm f | tstRegImm f | teqRegImm f | cmpRegImm f | cmnRegImm f | tstRegReg f
  | teqRegReg f | cmpRegReg f | cmnRegReg f =>
    unfold exec
    refine .of_prologue hc fun u => ?_
    exact dataProcessingBody_does _ f.s f.rn f.rd _ u fun h => nomatch h
  | mrs f =>
    unfold exec
    refine .of_prologue hc fun u => ?_
    exact moveFromStatus_does f u id
  | msrReg f | msrImm f =>
    unfold exec
    refine .of_prologue hc fun u => ?_
    exact moveToStatus_does f.r f.mask _ u
  | mul f | mla f =>
    exact multiply_does _ f hc id
  | umull f | umlal f | smull f | smlal f =>
    exact multiplyLong_does _ _ _ f hc id
  | swp f | swpb f =>
    unfold exec
    refine .of_prologue hc fun u => ?_
    exact swap_operated u _ _ f id
  | bx f =>
    unfold exec
    refine .of_prologue hc fun u => ?_
    exact branchExchange_operated u _
  | b f =>
    unfold exec
    refine .of_prologue hc fun u => ?_
    exact operated_setPc u _ rfl
  | bl f =>
    unfold exec
    refine .of_prologue hc fun u => ?_
    exact (operated_setReg u _ fun _ => rfl).trans (operated_setPc _ _ rfl)
  | strhReg f | strhImm f | strImmPre f | strImmPost f | strtImm f | strRegPre f | strRegPost f | strtReg f
  | strbImmPre f | strbImmPost f | strbtImm f | strbRegPre f | strbRegPost f | strbtReg f =>
    unfold exec
    refine .of_prologue hc fun u => ?_
    exact storeSingle_operated u _ _ f.rn _ id
  | ldrhReg f | ldrhImm f | ldrsbReg f | ldrsbImm f | ldrshReg f | ldrshImm f | ldrImmPre f | ldrImmPost f | ldrtImm f
  | ldrRegPre f | ldrRegPost f | ldrtReg f | ldrbImmPre f | ldrbImmPost f | ldrbtImm f | ldrbRegPre f | ldrbRegPost f
  | ldrbtReg f =>
    unfold exec
    refine .of_prologue hc fun u => ?_
    exact loadSingle_operated u _ _ f.rn f.rd id
  | ldm f =>
    unfold exec
    refine .of_prologue hc fun u => ?_
    exact loadMultiple_does f u id
  | stm f =>
    unfold exec
    refine .of_prologue hc fun u => ?_
    exact storeMultiple_does f u id
  | stc f | ldc f | cdp f | mcr f | mrc f =>
    unfold exec
    refine .of_prologue hc fun u => ?_
    exact Operated.of_frame
  | swi f =>
    unfold exec
    refine .of_prologue hc fun u => ?_
    exact softwareInterruptEntry_operated u
  | tLslImm f | tLsrImm f | tAsrImm f => exact .of_fetched hc (writeShifted_operated _ _ (ne_pc_of_isLow_last hw))
  | tAddReg f | tSubReg f | tAddImm3 f | tSubImm3 f | tAdc f | tSbc f | tNeg f =>
    exact .of_fetched hc (writeArithmetic_operated _ _ (ne_pc_of_isLow_last hw))
  | tMovImm8 f => exact .of_fetched hc (writeLogical_operated _ _ (ne_pc_of_isLow hw))
  | tAddImm8 f | tSubImm8 f => exact .of_fetched hc (writeArithmetic_operated _ _ (ne_pc_of_isLow hw))
  | tCmpImm8 f | tTst f | tCmpReg f | tCmn f | tCmpHi f => exact .of_fetched hc .of_frame
  | tAnd f | tEor f | tOrr f | tBic f | tMvn f =>
    exact .of_fetched hc (writeLogical_operated _ _ (ne_pc_of_isLow_last hw))
  | tLslReg f | tLsrReg f | tAsrReg f | tRor f =>
    exact .of_fetched hc ((writeShifted_operated _ _ (ne_pc_of_isLow_last hw)).trans .of_frame)
  | tMul f => exact .of_fetched hc ((writeLogical_operated _ _ (ne_pc_of_isLow_last hw)).trans .of_frame)
  | tAddHi f | tMovHi f => exact .of_fetched hc (operated_setReg _ _ fun h => beq_iff_eq.2 h)
  | tBx f => exact .of_fetched hc (branchExchange_operated _ _)
  | tLdrPc f | tLdrSp f => exact .of_fetched hc (thumbLoad_operated _ _ _ (ne_pc_of_isLow hw))
  | tLdrReg f | tLdrbReg f | tLdsb f | tLdrhReg f | tLdsh f | tLdrImm f | tLdrbImm f | tLdrhImm f =>
    exact .of_fetched hc (thumbLoad_operated _ _ _ (ne_pc_of_isLow_last hw))
  | tStrReg f | tStrbReg f | tStrhReg f | tStrImm f | tStrbImm f | tStrhImm f | tStrSp f =>
    exact .of_fetched hc (storeSingle_operated _ _ _ f.rd _ fun h => nomatch h)
  | tAddPc f | tAddSp f => exact .of_fetched hc (operated_setReg _ _ (ne_pc_of_isLow hw))
  | tAddSpImm7 v | tSubSpImm7 v => exact .of_fetched hc (operated_setReg _ _ fun h => nomatch h)
  | tPush f => exact .of_fetched hc (push_does f _)
  | tPop f => exact .of_fetched hc (pop_does f _ id)
  | tStmia f => exact .of_fetched hc (thumbStoreMultiple_does f _ (ne_pc_of_isLow hw))
  | tLdmia f => exact .of_fetched hc (thumbLoadMultiple_does f _ (ne_pc_of_isLow hw))
  | tBeq o | tBne o | tBcs o | tBcc o | tBmi o | tBpl o | tBvs o | tBvc o | tBhi o | tBls o | tBge o | tBlt o | tBgt o
  | tBle o =>
    unfold exec
    refine .of_prologue hc fun u => ?_
    exact operated_setPc u _ rfl
  | tSwi v => exact .of_fetched hc (softwareInterruptEntry_operated _)
  | tB o => exact .of_fetched hc (operated_setPc _ _ rfl)
  | tBlHi o => exact .of_fetched hc (operated_setReg _ _ fun h => nomatch h)
  | tBlLo o => exact .of_fetched hc ((operated_setPc _ _ rfl).trans (operated_setReg _ _ fun _ => rfl))

end Sys2Proof.Proofs
end

section
/-!
PROOF. The invariant of a step boundary is kept by the step, by reset and by every event of the outside world.
-/

namespace Sys2Proof.Proofs

open Sys2Proof.Machine Sys2Proof.Claims

/-- The invariant from what its parts say. -/
theorem inv_of_parts {s : State} (storage : StorageInv s) (reserved : s.savedStatusReserved)
    (pcEven : s.pc.getLsbD 0 = false) : s.Inv :=
  ⟨storage.memory, storage.armCache, storage.thumbCache, storage.coherent, reserved, pcEven⟩

/-- A change outside memory, the cache, the saved statuses and `x` keeps the invariant. -/
theorem inv_of_frame {s t : State} (h : s.Inv) (kept : Kept s t) (hx : t.x = s.x) : t.Inv :=
  inv_of_parts (kept.storage (storageInv_of_inv h)) (kept.reserved h.reserved) (State.pc_congr hx ▸ h.pcEven)

theorem inv_of_onlyMemory {s t : State} (h : s.Inv) (only : s.OnlyMemory t) (storage : StorageInv t) : t.Inv :=
  inv_of_parts storage (reserved_onlyMemory h.reserved only) (State.pc_congr only.x ▸ h.pcEven)

/-! ### The step -/

/-- An even address plus the width of either state is even. -/
theorem even_add_width {a : Word} (s : State) (h : a.getLsbD 0 = false) : (a + s.width).getLsbD 0 = false := by
  rw [getLsbD_zero_eq, decide_eq_false_iff_not] at h ⊢
  have width : s.width.toNat = 2 ∨ s.width.toNat = 4 := by unfold State.width; split <;> simp
  rw [BitVec.toNat_add]
  omega

theorem alignHalf_even (a : Word) : (alignHalf a).getLsbD 0 = false := by
  rw [getLsbD_zero_eq, decide_eq_false_iff_not, alignHalf_toNat]
  omega

theorem pc_fetch (s : State) : s.fetch.2.pc = s.pc := by rw [s.fetch_eq]; rfl

theorem reserved_fetch {s : State} (h : s.savedStatusReserved) : s.fetch.2.savedStatusReserved := by
  rw [s.fetch_eq]; exact h

theorem kept_advance (s : State) : Kept s s.advance := .of_frame

/-- The state an operation starts in meets the invariant (R82, R153). -/
theorem inv_fetch_advance {s : State} (h : s.Inv) : s.fetch.2.advance.Inv := by
  have storage := storageInv_fetch (storageInv_of_inv h) h.pcEven
  refine inv_of_parts ((kept_advance _).storage storage) ((kept_advance _).reserved (reserved_fetch h.reserved)) ?_
  have pc : s.fetch.2.advance.pc = s.fetch.2.pc + s.fetch.2.width := State.pc_setPc _ _
  rw [pc, pc_fetch]
  exact even_add_width _ h.pcEven

/-- The write-PC path keeps the invariant: it realigns a written PC (R157). -/
theorem inv_finish {s t : State} {w : Bool} (h : s.Inv) (kept : Kept s t)
    (hpc : w = false ∨ t.condPassed = false → t.pc = s.pc) : (t.finish w).Inv := by
  have finish : Kept t (t.finish w) := by rw [t.finish_eq w]; exact .of_frame
  have kept := kept.trans finish
  refine inv_of_parts (kept.storage (storageInv_of_inv h)) (kept.reserved h.reserved) ?_
  cases w with
  | false => rw [State.finish_false, hpc (.inl rfl)]; exact h.pcEven
  | true =>
    cases hc : t.condPassed with
    | false => rw [State.finish_failed hc, ← h.pcEven, ← hpc (.inr hc)]; rfl
    | true => rw [State.finish_passed hc, State.pc_setPc]; exact even_add_width t (alignHalf_even t.pc)

/-- The instruction a step runs is well-formed, and may write the PC exactly where the step says it may. -/
theorem fetched_instr {s : State} {i : Instr} (h : s.Inv) (hi : s.fetch.1.kind = .instr i) :
    i.wellFormed = true ∧ s.fetch.1.writesPC = i.writesPC := by
  rw [fetch_op_of_storageInv (storageInv_of_inv h)] at hi ⊢
  exact decodeOp_instr hi

/-- What an instruction of a step answers. -/
theorem exec_fetched_does {s : State} {i : Instr} (h : s.Inv) (hi : s.fetch.1.kind = .instr i) :
    InstrDoes s.fetch.1.writesPC s.fetch.2.advance (exec i s.fetch.2.advance) := by
  obtain ⟨wellFormed, writesPC⟩ := fetched_instr h hi
  exact writesPC ▸ exec_does wellFormed rfl

/-- Settles O16: `exec` keeps storage and the saved statuses, and the write-PC path realigns what an instruction may write
to the PC. -/
theorem stepKeepsInvariant : Obligations.StepKeepsInvariant := by
  intro s t h hstep
  rcases step_cases s with ⟨w, -, e⟩ | ⟨i, hi, e⟩ <;> rw [e] at hstep
  · nomatch hstep
  · obtain ⟨u, hu, ht⟩ := Result.andThen_eq_next hstep
    cases ht
    have does := exec_fetched_does h hi
    rw [hu] at does
    exact inv_finish (inv_fetch_advance h) does.1 does.2

/-- A fault of a step leaves memory in its canonical form. -/
theorem memory_of_step_fault {s : State} {f : Fault} (h : s.Inv) (hstep : step s = .fault f) : Memory.wf f.left.mem := by
  have start := storageInv_of_inv (inv_fetch_advance h)
  rcases step_cases s with ⟨w, -, e⟩ | ⟨i, hi, e⟩ <;> rw [e] at hstep
  · cases hstep; exact start.memory
  · have does := exec_fetched_does h hi
    cases hr : exec i s.fetch.2.advance with
    | next u => rw [hr] at hstep; nomatch hstep
    | refused c => rw [hr] at hstep; nomatch hstep
    | fault e =>
      rw [hr] at hstep does
      cases hstep
      exact (Kept.storage does start).memory

/-! ### Reset and the events of the outside world -/

theorem inv_resetAt {entry : Word} {mem : List Host.Cell} (log : List Word) (hmem : Memory.wf mem)
    (hentry : entry.extractLsb' 0 2 = 0#2) : (State.resetAt entry mem log).Inv := by
  have zero : statusReservedClear 0#32 = true := by decide
  have low : entry.getLsbD 0 = false := by simpa using congrArg (BitVec.getLsbD · 0) hentry
  refine inv_of_parts (storageInv_emptyCache hmem rfl rfl) ⟨zero, fun b => by cases b <;> exact zero⟩ ?_
  rw [getLsbD_zero_eq, decide_eq_false_iff_not] at low ⊢
  have pc : (State.resetAt entry mem log).pc = entry + 4#32 := rfl
  rw [pc, BitVec.toNat_add, BitVec.toNat_ofNat]
  omega

/-- Settles O17: the entry of a reset is a multiple of 4, and the reset state has an empty cache. -/
theorem resetMeetsInvariant : Obligations.ResetMeetsInvariant := inv_resetAt [] Memory.wf_nil (by decide)

theorem inv_resetTo {s t : State} {entry : Word} (hmem : Memory.wf s.mem) (h : s.resetTo entry = .next t) : t.Inv := by
  obtain ⟨hentry, rfl⟩ := State.resetTo_eq_next h
  exact inv_resetAt s.log hmem hentry

/-- The interrupt entry puts the PC at its vector, which is even (R442). -/
theorem inv_irqEntry {s : State} (h : s.Inv) : s.irqEntry.Inv := by
  have entry := kept_takeException s .irq (s.pc - s.width + 4#32) (Config.vectorIrq + 4#32)
  have kept : Kept s s.irqEntry := entry.trans .of_frame
  have pc : s.irqEntry.pc = Config.vectorIrq + 4#32 := State.pc_setPc _ _
  exact inv_of_parts (kept.storage (storageInv_of_inv h)) (kept.reserved h.reserved) (by rw [pc]; decide)

theorem inv_raiseInterrupt {s : State} (h : s.Inv) : s.raiseInterrupt.Inv := by
  unfold State.raiseInterrupt
  split
  · exact h
  · exact inv_irqEntry h

theorem inv_externalWrite {s : State} (h : s.Inv) (a : Word) (bytes : List Byte) : (s.externalWrite a bytes).Inv :=
  inv_of_onlyMemory h ((s.onlyMemory_setBytes a bytes).trans (State.onlyMemory_invalidate _ a bytes.length))
    (storageInv_externalWrite (storageInv_of_inv h) a bytes)

theorem inv_invalidate {s : State} (h : s.Inv) (a : Word) (n : Nat) : (s.invalidate a n).Inv :=
  inv_of_onlyMemory h (s.onlyMemory_invalidate a n)
    (storageInv_invalidate (storageInv_of_inv h) rfl rfl h.memory fun _ _ => rfl)

/-- A persisted state that the port accepts has its reserved bits zero and an even PC, and the port empties the cache (R48,
R88). -/
theorem inv_loadPersisted {s t : State} {p : Persisted} (hmem : Memory.wf s.mem) (h : s.loadPersisted p = .next t) :
    t.Inv := by
  unfold State.loadPersisted at h
  split at h
  · nomatch h
  · split at h
    · next wellFormed =>
      cases h
      simp only [Persisted.wellFormed, Bool.and_eq_true, Bool.not_eq_true'] at wellFormed
      obtain ⟨⟨⟨⟨⟨⟨⟨live, usr⟩, fiq⟩, irq⟩, svc⟩, abt⟩, und⟩, pc⟩ := wellFormed
      refine inv_of_parts (storageInv_emptyCache hmem rfl rfl) ⟨live, fun b => ?_⟩ pc
      cases b with
      | usr => exact usr
      | fiq => exact fiq
      | irq => exact irq
      | svc => exact svc
      | abt => exact abt
      | und => exact und
    · nomatch h

theorem inv_react {e : Event} {s t : State} (h : s.Inv) (ht : react e s = .next t) : t.Inv := by
  cases e with
  | step => exact stepKeepsInvariant s t h ht
  | raiseInterrupt => cases ht; exact inv_raiseInterrupt h
  | reset entry => exact inv_resetTo h.memory ht
  | externalWrite a bytes => cases ht; exact inv_externalWrite h a bytes
  | invalidate a n => cases ht; exact inv_invalidate h a n
  | advanceCycles k => cases ht; exact inv_of_frame h .of_frame rfl
  | load p => exact inv_loadPersisted h.memory ht

/-- On a live machine only a step can fault. -/
theorem react_eq_fault {e : Event} {s : State} {f : Fault} (h : react e s = .fault f) : step s = .fault f := by
  cases e with
  | step => exact h
  | raiseInterrupt | externalWrite | invalidate | advanceCycles => nomatch h
  | reset entry =>
    simp only [react, State.resetTo] at h
    split at h <;> nomatch h
  | load p =>
    simp only [react, State.loadPersisted] at h
    repeat' split at h
    all_goals nomatch h

theorem memory_of_reactFaulted {e : Event} {f f' : Fault} (h : Memory.wf f.left.mem)
    (hf : reactFaulted e f = .fault f') : Memory.wf f'.left.mem := by
  rcases reactFaulted_eq_fault hf with ⟨a, bytes, rfl⟩ | ⟨a, n, rfl⟩ | ⟨k, rfl⟩ <;> rw [Fault.left_withLeft]
  · exact State.externalWrite_wf h a bytes
  · rw [State.invalidate_mem]; exact h
  · exact h

theorem inv_of_reactFaulted {e : Event} {f : Fault} {t : State} (h : Memory.wf f.left.mem)
    (ht : reactFaulted e f = .next t) : ((∃ entry, e = .reset entry) ∨ ∃ p, e = .load p) ∧ t.Inv := by
  rcases reactFaulted_eq_next ht with ⟨entry, rfl, hr⟩ | ⟨p, rfl, hl⟩
  · exact ⟨.inl ⟨entry, rfl⟩, inv_resetTo h hr⟩
  · exact ⟨.inr ⟨p, rfl⟩, inv_loadPersisted h hl⟩

/-- Settles O18: event by event, on a live machine and on a faulted one. -/
theorem eventsKeepInvariant : Obligations.EventsKeepInvariant :=
  ⟨fun _ _ _ h ht => inv_react h ht,
    fun _ _ _ h hf => memory_of_step_fault h (react_eq_fault hf),
    fun _ _ _ h hf => memory_of_reactFaulted h hf,
    fun _ _ _ h ht => inv_of_reactFaulted h ht,
    fun _ events => ⟨Result.reactAll_refused _ events, Result.reactAll_refused _ events⟩⟩

end Sys2Proof.Proofs
end

section
/-!
PROOF. No instruction reads the instruction cache, the cycle counter or `fetchNonSeq`: it answers the same, those aside, from
a state and from the same state with those fields blanked. One lemma per shared operation, then the instructions by the
operation each runs.
-/

namespace Sys2Proof.Proofs

open Sys2Proof.Machine Sys2Proof.Claims

/-! ### Blanking the hidden fields -/

/-- The state with the cycle counter, `fetchNonSeq` and the instruction cache at fixed values. -/
def visible (s : State) : State := { s with cycles := 0, fetchNonSeq := false, icacheArm := [], icacheThumb := [] }

/-- The two states agree on everything but the cycle counter, `fetchNonSeq` and the instruction cache. -/
abbrev Alike (s t : State) : Prop := visible s = visible t

/-- A result with the hidden fields of the state it carries blanked. -/
def visibleResult : Result → Result
  | .next s => .next (visible s)
  | .fault e => .fault (e.withLeft (visible e.left))
  | .refused c => .refused c

/-- An operation that answers the same, the hidden fields aside, from a state and from that state with them blanked. -/
def Blind (k : State → Result) : Prop := ∀ s, visibleResult (k s) = visibleResult (k (visible s))

theorem alike_visible (s : State) : Alike s (visible s) := rfl

theorem alike_fetchCost (s : State) : Alike s.fetchCost (visible s).fetchCost := rfl

theorem Blind.of_alike {k : State → Result} (h : Blind k) {s t : State} (hst : Alike s t) :
    visibleResult (k s) = visibleResult (k t) := by
  rw [h s, h t, hst]

theorem alike_next {s t : State} (h : Alike s t) : visibleResult (.next s) = visibleResult (.next t) :=
  congrArg Host.Outcome.next h

theorem blind_next {g : State → State} (h : ∀ s, Alike (g s) (g (visible s))) : Blind fun s => .next (g s) :=
  fun s => alike_next (h s)

theorem visibleResult_andThen {k : State → Result} (h : Blind k) (r : Result) :
    visibleResult (r.andThen k) = visibleResult ((visibleResult r).andThen k) := by
  cases r with
  | next s => exact h s
  | fault e => cases e <;> rfl
  | refused c => rfl

theorem Blind.andThen {k : State → Result} (hk : Blind k) {r r' : Result} (h : visibleResult r = visibleResult r') :
    visibleResult (r.andThen k) = visibleResult (r'.andThen k) := by
  rw [visibleResult_andThen hk r, visibleResult_andThen hk r', h]

/-! ### Operations on states that are alike -/

section
variable {s t s' t' : State}

theorem Alike.setReg (h : Alike s t) (r : Reg) (v : Word) : Alike (s.setReg r v) (t.setReg r v) :=
  congrArg (State.setReg · r v) h

theorem Alike.setPc (h : Alike s t) (v : Word) : Alike (s.setPc v) (t.setPc v) := h.setReg Reg.pc v

theorem Alike.ite {c : Prop} [Decidable c] (h : Alike s t) (h' : Alike s' t') :
    Alike (if c then s else s') (if c then t else t') := by
  split
  · exact h
  · exact h'

/-- The write-back of a base register. -/
theorem Alike.writeBack (h : Alike s t) (wb : Bool) (r : Reg) (v : Word) :
    Alike (if wb then s.setReg r v else s) (if wb then t.setReg r v else t) := (h.setReg r v).ite h

theorem Alike.setFlags (h : Alike s t) (op : DpOp) (r : AluResult) (k : Bool) :
    Alike (s.setFlags op r k) (t.setFlags op r k) :=
  Alike.ite (congrArg (State.setFlagsArithmetic · r) h) (congrArg (State.setFlagsLogical · r.value k) h)

theorem Alike.internalCycles (h : Alike s t) (n : Nat) : Alike (s.internalCycles n) (t.internalCycles n) := h

theorem Alike.dataCost (h : Alike s t) (w : Width) (seq : Bool) (a : Word) :
    Alike (s.dataCost w seq a) (t.dataCost w seq a) := h

theorem Alike.blockCost (h : Alike s t) (n : Nat) (a : Word) (seq : Bool) :
    Alike (s.blockCost n a seq) (t.blockCost n a seq) := by
  rw [State.blockCost_eq s, State.blockCost_eq t]; exact h

/-- A store writes its bytes; what else it does is hidden (R71, R84). -/
theorem visible_memWrite (s : State) (w : Width) (a v : Word) :
    visible (s.memWrite w a v) = (visible s).storeBytes w a v := by
  rw [State.memWrite_eq, State.invalidate_eq]
  cases w <;> rfl

theorem Alike.memWrite (h : Alike s t) (w : Width) (a v : Word) : Alike (s.memWrite w a v) (t.memWrite w a v) := by
  rw [Alike, visible_memWrite, visible_memWrite, h]

theorem Alike.blockStore (h : Alike s t) (vs : List Word) (a : Word) : Alike (s.blockStore vs a) (t.blockStore vs a) := by
  induction vs generalizing s t a with
  | nil => exact h
  | cons v rest ih => exact ih (h.memWrite .word (alignWord a) v) (a + 4#32)

theorem visible_setUserReg (s : State) (r : Reg) (v : Word) : visible (s.setUserReg r v) = (visible s).setUserReg r v := by
  unfold State.setUserReg
  simp only [apply_ite visible, apply_dite visible]
  rfl

theorem visible_writeLoadedOne (s : State) (user : Bool) (d : Reg × Word) :
    visible (s.writeLoadedOne user d) = (visible s).writeLoadedOne user d := by
  unfold State.writeLoadedOne
  simp only [apply_ite visible, visible_setUserReg]
  rfl

theorem Alike.writeLoaded (h : Alike s t) (data : List (Reg × Word)) (user : Bool) :
    Alike (s.writeLoaded data user) (t.writeLoaded data user) := by
  induction data generalizing s t with
  | nil => exact h
  | cons d rest ih =>
    refine ih ?_
    rw [Alike, visible_writeLoadedOne, visible_writeLoadedOne, h]

theorem visible_switchModeTo (s : State) (m : Mode) : visible (s.switchModeTo m) = (visible s).switchModeTo m := by
  have mode : (visible s).mode = s.mode := rfl
  unfold State.switchModeTo
  simp only [mode]
  repeat' split
  all_goals rfl

theorem visible_unpacked (s : State) (m : Mode) (w : Word) : visible (unpacked s m w) = unpacked (visible s) m w := by
  rw [unpacked, unpacked, ← visible_switchModeTo]; rfl

theorem blockData_visible (s : State) (a : Word) (rs : List Reg) : (visible s).blockData a rs = s.blockData a rs := by
  induction rs generalizing a with
  | nil => rfl
  | cons r rest ih => rw [State.blockData, State.blockData, ih]; rfl

/-! ### The shared operations -/

theorem blind_prologue {body : State → Result} (h : Blind body) (c : Cond) : Blind fun s => s.prologue c body := by
  intro s
  have cond : (visible s).fetchCost.conditionPassed c = s.fetchCost.conditionPassed c := rfl
  simp only [State.prologue, cond]
  split
  · exact h.of_alike (alike_fetchCost s)
  · rfl

theorem unpackStatus_visible (s : State) (w : Word) : (visible s).unpackStatus w = (s.unpackStatus w).map visible := by
  rw [State.unpackStatus_eq, State.unpackStatus_eq, Option.map_map]
  exact congrArg (Option.map · _) (funext fun m => (visible_unpacked s m w).symm)

theorem blind_returnFromException (target : Word) : Blind fun s => s.returnFromException target := by
  intro s
  have mode : (visible s).mode = s.mode := rfl
  have spsr : (visible s).spsr = s.spsr := rfl
  simp only [State.returnFromException, mode, spsr, unpackStatus_visible]
  split
  · cases s.unpackStatus s.spsr with
    | none => rfl
    | some t => rfl
  · rfl

theorem blind_dataProcessingBody (op : DpOp) (setS : Bool) (rn rd : Reg) (form : Operand2) :
    Blind (dataProcessingBody op setS rn rd form) := by
  intro s
  have shifted : Alike (s.shifted form) ((visible s).shifted form) := rfl
  have eval : form.eval (visible s) = form.eval s := rfl
  have compute : form.compute op rn (visible s) = form.compute op rn s := rfl
  rw [dataProcessingBody_eq, dataProcessingBody_eq, eval, compute]
  split
  · exact alike_next (shifted.setFlags _ _ _)
  · split
    · split
      · exact (blind_returnFromException _).of_alike shifted
      · exact alike_next (shifted.setPc _)
    · have written := shifted.setReg rd (form.compute op rn s).value
      exact alike_next ((written.setFlags _ _ _).ite written)

theorem blind_multiply (acc : Bool) (f : MulForm) : Blind (multiply acc f) := by
  refine blind_prologue (fun s => ?_) f.cond
  exact alike_next (Alike.ite rfl rfl)

theorem blind_multiplyLong (product : Word → Word → BitVec 64) (cycles : Word → Nat) (acc : Bool) (f : MulLong) :
    Blind (multiplyLong product cycles acc f) := by
  refine blind_prologue (fun s => ?_) f.cond
  exact alike_next (Alike.ite rfl rfl)

theorem Alike.memRead (h : Alike s t) (kind : LoadKind) (a : Word) : t.memRead kind a = s.memRead kind a := by
  have read : (visible t).memRead kind a = (visible s).memRead kind a := by rw [h]
  exact read

theorem Alike.loadSingle (h : Alike s t) (kind : LoadKind) (a : TransferAddress) (rn rd : Reg) :
    Alike (s.loadSingle kind a rn rd) (t.loadSingle kind a rn rd) := by
  have base := (h.dataCost kind.width false a.addr).writeBack a.wback rn a.offaddr
  have loaded := (base.setReg rd (s.memRead kind a.addr)).internalCycles 1
  unfold State.loadSingle
  rw [h.memRead]
  exact loaded

theorem Alike.storeSingle (h : Alike s t) (w : Width) (a : TransferAddress) (rn : Reg) (v : Word) :
    Alike (s.storeSingle w a rn v) (t.storeSingle w a rn v) :=
  ((h.memWrite w a.addr v).dataCost w false a.addr).writeBack a.wback rn a.offaddr

theorem alike_swap (s : State) (kind : LoadKind) (w : Width) (f : SwpForm) :
    Alike (s.swap kind w f) ((visible s).swap kind w f) := by
  have write := ((alike_visible s).dataCost w false (s.reg f.rn)).memWrite w (s.reg f.rn) (s.storedReg f.rm)
  exact ((write.dataCost w false (s.reg f.rn)).setReg f.rd (s.memRead kind (s.reg f.rn))).internalCycles 1

theorem blind_loadMultiple (f : BdtForm) : Blind (loadMultiple f) := by
  intro s
  have mode : (visible s).mode = s.mode := rfl
  have reg : (visible s).reg = s.reg := rfl
  have loaded (n : Nat) (a v : Word) (data : List (Reg × Word)) (user : Bool) :=
    (((alike_visible s).blockCost n a false).writeBack f.w f.rn v).writeLoaded data user
  simp only [loadMultiple, mode, reg, blockData_visible]
  split
  · rfl
  split
  · rfl
  split
  · refine Blind.andThen (fun _ => rfl) ?_
    exact (blind_returnFromException _).of_alike (loaded _ _ _ _ _)
  · split
    · exact alike_next (((loaded _ _ _ _ _).setPc _).internalCycles 1)
    · exact alike_next ((loaded _ _ _ _ _).internalCycles 1)

theorem blind_storeMultiple (f : BdtForm) : Blind (storeMultiple f) := by
  intro s
  have reg : (visible s).reg = s.reg := rfl
  have words (v : Word) : storedWords f (visible s) v = storedWords f s v := rfl
  simp only [storeMultiple, reg, words]
  split
  · rfl
  · exact alike_next ((((alike_visible s).blockStore _ _).blockCost _ _ false).writeBack f.w f.rn _)

theorem blind_moveFromStatus (f : MrsForm) : Blind (moveFromStatus f) := by
  intro s
  unfold moveFromStatus
  simp only [apply_ite visibleResult]
  rfl

theorem writeControl_visible (s : State) (mask : FieldMask) (op : Word) :
    (visible s).writeControl mask op = (s.writeControl mask op).map visible := by
  have mode : (visible s).mode = s.mode := rfl
  simp only [State.writeControl, mode]
  split
  · rw [State.switchMode_eq, State.switchMode_eq, Option.map_map, Option.map_map, Option.map_map]
    refine congrArg (Option.map · _) (funext fun m => ?_)
    simp only [Function.comp, ← visible_switchModeTo]
    rfl
  · rfl

theorem blind_moveToStatus (r : Bool) (mask : FieldMask) (op : Word) : Blind (moveToStatus r mask op) := by
  intro s
  have mode : (visible s).mode = s.mode := rfl
  simp only [moveToStatus, mode, writeControl_visible]
  split
  · split
    · rfl
    · rfl
  · cases s.writeControl mask op with
    | none => rfl
    | some t => exact alike_next (Alike.ite rfl rfl)

theorem blind_push (f : TPushPop) : Blind (push f) := by
  intro s
  have reg : (visible s).reg = s.reg := rfl
  simp only [push, reg]
  split
  · rfl
  · exact alike_next ((((alike_visible s).blockStore _ _).blockCost _ _ false).setReg Reg.sp _)

theorem blind_pop (f : TPushPop) : Blind (pop f) := by
  intro s
  have reg : (visible s).reg = s.reg := rfl
  simp only [pop, reg, blockData_visible]
  split
  · rfl
  · have loaded (n : Nat) (a : Word) (data : List (Reg × Word)) :=
      ((alike_visible s).blockCost n a false).writeLoaded data false
    exact alike_next (((((loaded _ _ _).setPc _).ite (loaded _ _ _)).setReg Reg.sp _).internalCycles 1)

theorem blind_thumbStoreMultiple (f : TBlock) : Blind (thumbStoreMultiple f) := by
  intro s
  have reg : (visible s).reg = s.reg := rfl
  have words (v : Word) : thumbStoredWords f (visible s) v = thumbStoredWords f s v := rfl
  simp only [thumbStoreMultiple, reg, words]
  split
  · rfl
  · exact alike_next ((((alike_visible s).blockStore _ _).blockCost _ _ false).setReg f.rb _)

theorem blind_thumbLoadMultiple (f : TBlock) : Blind (thumbLoadMultiple f) := by
  intro s
  have reg : (visible s).reg = s.reg := rfl
  simp only [thumbLoadMultiple, reg, blockData_visible]
  split
  · rfl
  · exact alike_next (((((alike_visible s).blockCost _ _ false).setReg f.rb _).writeLoaded _ false).internalCycles 1)

theorem visible_takeException (s : State) (m : Mode) (ret target : Word) :
    visible (s.takeException m ret target) = (visible s).takeException m ret target := by
  rw [State.takeException, State.takeException, ← visible_switchModeTo]; rfl

theorem Alike.softwareInterruptEntry (h : Alike s t) : Alike s.softwareInterruptEntry t.softwareInterruptEntry := by
  have entry (u : State) : visible u.softwareInterruptEntry = (visible u).softwareInterruptEntry :=
    visible_takeException u .svc _ _
  rw [Alike, entry, entry, h]

/-! ### Instructions -/

/-- Every instruction, by the operation it runs. -/
theorem exec_blind (i : Instr) : Blind (exec i) := by
  intro s
  cases i with
  | andImm f | eorImm f | subImm f | rsbImm f | addImm f | adcImm f | sbcImm f | rscImm f | orrImm f | movImm f
  | bicImm f | mvnImm f | andRegImm f | eorRegImm f | subRegImm f | rsbRegImm f | addRegImm f | adcRegImm f
  | sbcRegImm f | rscRegImm f | orrRegImm f | movRegImm f | bicRegImm f | mvnRegImm f | andRegReg f | eorRegReg f
  | subRegReg f | rsbRegReg f | addRegReg f | adcRegReg f | sbcRegReg f | rscRegReg f | orrRegReg f | movRegReg f
  | bicRegReg f | mvnRegReg f | tstImm f | teqImm f | cmpImm f | cmnImm f | tstRegImm f | teqRegImm f | cmpRegImm f
  | cmnRegImm f | tstRegReg f | teqRegReg f | cmpRegReg f | cmnRegReg f =>
    exact blind_prologue (blind_dataProcessingBody _ f.s f.rn f.rd _) f.cond s
  | mrs f => exact blind_prologue (blind_moveFromStatus f) f.cond s
  | msrReg f =>
    unfold exec
    refine blind_prologue (fun u => ?_) f.cond s
    exact blind_moveToStatus f.r f.mask (u.reg f.rm) u
  | msrImm f => exact blind_prologue (blind_moveToStatus f.r f.mask _) f.cond s
  | mul f | mla f => exact blind_multiply _ f s
  | umull f | umlal f | smull f | smlal f => exact blind_multiplyLong _ _ _ f s
  | swp f | swpb f => exact blind_prologue (blind_next fun u => alike_swap u _ _ f) f.cond s
  | bx f | b f | bl f | stc f | ldc f | cdp f | mcr f | mrc f =>
    unfold exec
    exact blind_prologue (fun _ => rfl) f.cond s
  | strhReg f | strhImm f | strImmPre f | strImmPost f | strtImm f | strRegPre f | strRegPost f | strtReg f
  | strbImmPre f | strbImmPost f | strbtImm f | strbRegPre f | strbRegPost f | strbtReg f =>
    unfold exec
    refine blind_prologue (fun u => ?_) f.cond s
    exact alike_next ((alike_visible u).storeSingle _ _ f.rn _)
  | ldrhReg f | ldrhImm f | ldrsbReg f | ldrsbImm f | ldrshReg f | ldrshImm f | ldrImmPre f | ldrImmPost f | ldrtImm f
  | ldrRegPre f | ldrRegPost f | ldrtReg f | ldrbImmPre f | ldrbImmPost f | ldrbtImm f | ldrbRegPre f | ldrbRegPost f
  | ldrbtReg f =>
    unfold exec
    refine blind_prologue (fun u => ?_) f.cond s
    exact alike_next ((alike_visible u).loadSingle _ _ f.rn f.rd)
  | ldm f => exact blind_prologue (blind_loadMultiple f) f.cond s
  | stm f => exact blind_prologue (blind_storeMultiple f) f.cond s
  | swi f =>
    exact blind_prologue (blind_next fun u => (alike_visible u).softwareInterruptEntry) f.cond s
  | tLslImm f | tLsrImm f | tAsrImm f | tAddReg f | tSubReg f | tAddImm3 f | tSubImm3 f | tAdc f | tSbc f | tNeg f
  | tMovImm8 f | tAddImm8 f | tSubImm8 f | tCmpImm8 f | tTst f | tCmpReg f | tCmn f | tCmpHi f | tAnd f | tEor f
  | tOrr f | tBic f | tMvn f | tLslReg f | tLsrReg f | tAsrReg f | tRor f | tMul f | tAddHi f | tMovHi f | tBx f
  | tAddPc f | tAddSp f | tAddSpImm7 v | tSubSpImm7 v | tB o | tBlHi o | tBlLo o => rfl
  | tLdrPc f | tLdrSp f | tLdrReg f | tLdrbReg f | tLdsb f | tLdrhReg f | tLdsh f | tLdrImm f | tLdrbImm f
  | tLdrhImm f =>
    exact alike_next ((alike_fetchCost s).loadSingle _ _ f.rd f.rd)
  | tStrReg f | tStrbReg f | tStrhReg f | tStrImm f | tStrbImm f | tStrhImm f | tStrSp f =>
    exact alike_next ((alike_fetchCost s).storeSingle _ _ f.rd _)
  | tPush f => exact (blind_push f).of_alike (alike_fetchCost s)
  | tPop f => exact (blind_pop f).of_alike (alike_fetchCost s)
  | tStmia f => exact (blind_thumbStoreMultiple f).of_alike (alike_fetchCost s)
  | tLdmia f => exact (blind_thumbLoadMultiple f).of_alike (alike_fetchCost s)
  | tBeq o | tBne o | tBcs o | tBcc o | tBmi o | tBpl o | tBvs o | tBvc o | tBhi o | tBls o | tBge o | tBlt o | tBgt o
  | tBle o =>
    unfold exec
    exact blind_prologue (fun _ => rfl) _ s
  | tSwi v => exact alike_next ((alike_fetchCost s).softwareInterruptEntry)

/-! ### The step -/

/-- States that agree on all but the hidden fields agree on the visible state. -/
theorem sameVisible_of_alike (h : Alike s t) : SameVisible s t := by
  have field {α : Type} (g : State → α) : g (visible t) = g (visible s) := by rw [h]
  exact ⟨field (·.x), ⟨field (·.n), field (·.z), field (·.c), field (·.v)⟩,
    ⟨field (·.i), field (·.f), field (·.t), field (·.mode)⟩,
    ⟨field (·.spsr), field (·.shadow), field (·.shadow8_12)⟩, field (·.mem), field (·.log)⟩

/-- The visible state and `condPassed` are all that is not hidden. -/
theorem alike_of_sameVisible (h : SameVisible s t) :
    Alike { s with condPassed := true } { t with condPassed := true } := by
  obtain ⟨hx, ⟨hn, hz, hc, hv⟩, ⟨hi, hf, ht, hmode⟩, ⟨hspsr, hshadow, hhigh⟩, hmem, hlog⟩ := h
  simp only [Alike, visible, hx, hn, hz, hc, hv, hi, hf, ht, hmode, hspsr, hshadow, hhigh, hmem, hlog]

theorem sameOutcome_of_visibleResult {r r' : Result} (h : visibleResult r = visibleResult r') : SameOutcome r r' := by
  cases r with
  | next s =>
    cases r' with
    | next t => exact sameVisible_of_alike (Host.Outcome.next.inj h)
    | fault e => nomatch h
    | refused c => nomatch h
  | fault e =>
    cases r' with
    | next t => nomatch h
    | fault e' =>
      have h : e.withLeft (visible e.left) = e'.withLeft (visible e'.left) := Host.Outcome.fault.inj h
      cases e with
      | illegalInstruction w l =>
        cases e' with
        | illegalInstruction w' l' =>
          obtain ⟨hw, hl⟩ := Fault.illegalInstruction.inj h
          exact ⟨hw.symm, sameVisible_of_alike hl⟩
        | invariantViolation k' l' => nomatch h
      | invariantViolation k l =>
        cases e' with
        | illegalInstruction w' l' => nomatch h
        | invariantViolation k' l' =>
          obtain ⟨hk, hl⟩ := Fault.invariantViolation.inj h
          exact ⟨hk.symm, sameVisible_of_alike hl⟩
    | refused c => nomatch h
  | refused c =>
    cases r' with
    | next t => nomatch h
    | fault e => nomatch h
    | refused d => exact (Host.Outcome.refused.inj h).symm

/-- The state an operation starts in: a fetch fills the cache at most, and the advance sets `condPassed`. -/
theorem alike_fetch_advance (h : SameVisible s t) : Alike s.fetch.2.advance t.fetch.2.advance := by
  have fetched (u : State) : Alike u.fetch.2.advance u.advance := by rw [u.fetch_eq]; rfl
  calc visible s.fetch.2.advance
    _ = visible s.advance := fetched s
    _ = (visible { s with condPassed := true }).advance := rfl
    _ = (visible { t with condPassed := true }).advance := by rw [alike_of_sameVisible h]
    _ = visible t.advance := rfl
    _ = visible t.fetch.2.advance := (fetched t).symm

/-- Under the invariant the operation a fetch yields is visible: it is what memory decodes to. -/
theorem fetch_op_of_sameVisible (hs : s.Inv) (ht : t.Inv) (h : SameVisible s t) : t.fetch.1 = s.fetch.1 := by
  rw [fetch_op_of_storageInv (storageInv_of_inv hs), fetch_op_of_storageInv (storageInv_of_inv ht)]
  calc t.decodedAtFetch
    _ = (visible { t with condPassed := true }).decodedAtFetch := rfl
    _ = (visible { s with condPassed := true }).decodedAtFetch := by rw [alike_of_sameVisible h]
    _ = s.decodedAtFetch := rfl

/-- The write-PC path reads nothing hidden. -/
theorem blind_finish (w : Bool) : Blind fun s => .next (s.finish w) := by
  refine blind_next fun s => ?_
  cases w with
  | false => rfl
  | true =>
    cases hc : s.condPassed with
    | false => rw [State.finish_failed hc, State.finish_failed (s := visible s) hc]; rfl
    | true => rw [State.finish_passed hc, State.finish_passed (s := visible s) hc]; rfl

end

/-- Settles O19: under the invariant both steps run the operation that memory holds at the fetch, and every operation is
blind to the hidden fields. -/
theorem hiddenStateIsUnobservable : Obligations.HiddenStateIsUnobservable := by
  intro s s' hs hs' same
  have op := fetch_op_of_sameVisible hs hs' same
  have start := alike_fetch_advance same
  refine sameOutcome_of_visibleResult ?_
  simp only [step, op]
  cases s.fetch.1.kind with
  | illegal w => exact congrArg (fun l => Host.Outcome.fault (Fault.illegalInstruction w l)) start
  | instr i => exact (blind_finish _).andThen ((exec_blind i).of_alike start)

end Sys2Proof.Proofs
end

section
/-!
PROOF. The two returns from an exception other than a plain jump: data processing with S = 1 and Rd = 15 (R213), and LDM with
S and register 15 (R307). Both answer the state of `UnpackStatus` of the saved status with the PC written (R447).
-/

namespace Sys2Proof.Proofs

open Sys2Proof.Machine Sys2Proof.Claims

/-! ### The return from an exception (R447) -/

/-- The state an exception return answers, the saved status holding the number of mode `m`. -/
def returned (s : State) (m : Mode) (target : Word) : State := (unpacked s m s.spsr).setPc target

theorem hasSpsr_of_privileged {m : Mode} (husr : m ≠ .usr) (hsys : m ≠ .sys) : m.hasSpsr = true := by
  cases m with
  | usr => exact absurd rfl husr
  | sys => exact absurd rfl hsys
  | fiq | irq | svc | abt | und => rfl

theorem returnFromException_of_mode {s : State} {m : Mode} (husr : s.mode ≠ .usr) (hsys : s.mode ≠ .sys)
    (hm : modeNumber m = s.spsr.extractLsb' 0 5) (target : Word) :
    s.returnFromException target = .next (returned s m target) := by
  rw [State.returnFromException, if_pos (hasSpsr_of_privileged husr hsys), unpackStatus_of_mode hm]
  rfl

section
variable (s : State) (m : Mode) (target : Word)

theorem returned_mode : (returned s m target).mode = m := unpacked_mode s m s.spsr

theorem statusFrom_returned : StatusFrom (returned s m target) s.spsr := statusFrom_unpacked s m s.spsr

theorem pc_returned : (returned s m target).pc = target := State.pc_setPc _ _

theorem view_returned (m' : Mode) {r : Reg} (h : r ≠ Reg.pc) : (returned s m target).view m' r = s.view m' r :=
  (view_congr_live (s := unpacked s m s.spsr) (t := returned s m target) rfl rfl rfl fun _ =>
    State.reg_setPc_ne _ target h).trans (view_unpacked s m s.spsr m' r)

theorem viewSpsr_returned (m' : Mode) : (returned s m target).viewSpsr m' = s.viewSpsr m' :=
  viewSpsr_unpacked s m s.spsr m'

theorem sameMemory_returned : SameMemory s (returned s m target) := sameMemory_unpacked s m s.spsr

theorem returned_log : (returned s m target).log = s.log := unpacked_log s m s.spsr

/-- An exception return charges nothing. -/
theorem charged_returned {s₀ : State} {k : Nat} {nonSeq : Bool} (h : Charged s₀ s k nonSeq) :
    Charged s₀ (returned s m target) k nonSeq := by
  obtain ⟨hcycles, hseq, hcond⟩ := h
  exact ⟨(switchModeTo_cycles s m).trans hcycles, (switchModeTo_fetchNonSeq s m).trans hseq,
    (switchModeTo_condPassed s m).trans hcond⟩

end

/-! ### Data processing -/

theorem charged_shifted (s : State) (form : Operand2) : Charged s (s.fetchCost.shifted form) (shiftCycle form) false := by
  have cycles : (if form.isRegShift then 1 else 0) = shiftCycle form := by cases form <;> rfl
  rw [State.shifted, cycles]
  exact charged_internalCycles s (shiftCycle form)

theorem compute_value (form : Operand2) (op : DpOp) (rn : Reg) (s : State) :
    (form.compute op rn s).value = dpResult op (firstOperand form s rn) (form.eval s).value s.c := by
  rw [Operand2.compute, dpCompute_value, readReg_eq_firstOperand]

/-- Settles O38: the operands are read in the old mode, and the return changes what `returned` says. -/
theorem dataProcessingReturns : Obligations.DataProcessingReturns := by
  intro i op c rn form s m row notTest holds husr hsys hm
  refine ⟨returned (s.fetchCost.shifted form) m (form.compute op rn s).value, ?_, ?_, returned_mode _ m _,
    statusFrom_returned _ m _, ⟨fun m' r hr => view_returned _ m _ m' hr, viewSpsr_returned _ m _⟩,
    sameMemory_returned _ m _, returned_log _ m _, charged_returned _ m _ (charged_shifted s form)⟩
  · rw [exec_dpRow s row, dataProcessing, prologue_of_holds holds, dataProcessingBody_eq, dpIsTest_eq, notTest]
    exact returnFromException_of_mode (s := s.fetchCost.shifted form) husr hsys hm _
  · rw [pc_returned, compute_value]

/-! ### Block loads -/

theorem blockStart_eq (p u : Bool) (base : Word) (l : BitVec 16) :
    blockStart p u base l = startAddress p u base (listSize l) := by
  rw [listSize_eq]; cases p <;> cases u <;> rfl

theorem blockNewBase_eq (u : Bool) (base : Word) (l : BitVec 16) : blockNewBase u base l = newBase u base (listSize l) := by
  rw [listSize_eq]; rfl

theorem writeLoaded_append (before after : List (Reg × Word)) (user : Bool) (s : State) :
    s.writeLoaded (before ++ after) user = (s.writeLoaded before user).writeLoaded after user := by
  induction before generalizing s with
  | nil => rfl
  | cons d rest ih => exact ih _

/-- A block load leaves a listed register as its slot in memory (R303). -/
theorem reg_writeLoaded_listed (s : State) {before after : List (Reg × Word)} {r : Reg} (v : Word) (hr : r ≠ Reg.pc)
    (hafter : ∀ d ∈ after, d.1 ≠ r) : (s.writeLoaded (before ++ (r, v) :: after) false).reg r = v := by
  rw [writeLoaded_append, State.writeLoaded, State.reg_writeLoaded_other _ _ _ (.inr hafter), State.writeLoadedOne,
    if_neg hr]
  exact State.reg_setReg_same _ r v

theorem loadedPc_eq {data before after : List (Reg × Word)} {v : Word} (e : data = before ++ (Reg.pc, v) :: after)
    (hbefore : ∀ d ∈ before, d.1 ≠ Reg.pc) : loadedPc data = v := by
  have found : data.lookup Reg.pc = some v :=
    List.lookup_eq_some_iff.2 ⟨before, after, e, fun d hd => by simpa using (hbefore d hd).symm⟩
  rw [loadedPc, found, Option.getD_some]

/-- The state of LDM to the live bank after its register writes (R303): `s3` of `loadMultiple`. -/
def blockLoaded (f : BdtForm) (s : State) : State :=
  let start := blockStart f.p f.u (s.reg f.rn) f.rlist
  let s1 := s.blockCost (registerCount f.rlist) start false
  let s2 := if f.w then s1.setReg f.rn (blockNewBase f.u (s.reg f.rn) f.rlist) else s1
  s2.writeLoaded (s.blockData start (registersOf f.rlist)) false

section
variable (f : BdtForm) (s : State)

/-- The register writes of LDM change live registers and timing alone. -/
theorem blockLoaded_eq :
    blockLoaded f s =
      { s with x := (blockLoaded f s).x, cycles := (blockLoaded f s).cycles
               fetchNonSeq := (blockLoaded f s).fetchNonSeq } := by
  simp only [blockLoaded]
  rw [State.writeLoaded_live_eq, State.blockCost_eq]
  split <;> rfl

/-- A listed register is loaded from its slot (R301, R303). -/
theorem reg_blockLoaded_listed {r : Reg} (h : InList f.rlist r) (hr : r ≠ Reg.pc) :
    (blockLoaded f s).reg r = s.wordAt (slot (startAddress f.p f.u (s.reg f.rn) (listSize f.rlist)) f.rlist r) := by
  obtain ⟨before, after, e, -, hafter⟩ :=
    blockData_split s f.rlist r h (startAddress f.p f.u (s.reg f.rn) (listSize f.rlist))
  simp only [blockLoaded, blockStart_eq, e]
  exact reg_writeLoaded_listed _ _ hr hafter

/-- A register that is not listed is the written base, or what it was. -/
theorem reg_blockLoaded_unlisted {r : Reg} (h : ¬ InList f.rlist r) :
    (blockLoaded f s).reg r =
      if f.w = true ∧ r = f.rn then newBase f.u (s.reg f.rn) (listSize f.rlist) else s.reg r := by
  have unlisted : ∀ d ∈ s.blockData (blockStart f.p f.u (s.reg f.rn) f.rlist) (registersOf f.rlist), d.1 ≠ r := by
    rintro d hd rfl
    refine h ((mem_registersOf f.rlist d.1).1 ?_)
    rw [← State.blockData_fst s (blockStart f.p f.u (s.reg f.rn) f.rlist) (registersOf f.rlist)]
    exact List.mem_map_of_mem hd
  simp only [blockLoaded]
  rw [State.reg_writeLoaded_other _ _ _ (.inr unlisted)]
  cases f.w with
  | false => simp [State.reg_blockCost]
  | true => simp [State.reg_setReg, State.reg_blockCost, blockNewBase_eq]

theorem blockLoaded_mode : (blockLoaded f s).mode = s.mode := by rw [blockLoaded_eq]

theorem blockLoaded_spsr : (blockLoaded f s).spsr = s.spsr := by rw [blockLoaded_eq]

/-- A register that LDM neither loads nor writes back to is the same in every mode. -/
theorem view_blockLoaded (m : Mode) {r : Reg}
    (h : ¬ ((InList f.rlist r ∨ (f.w = true ∧ r = f.rn)) ∧ SamePhysical m s.mode r)) :
    (blockLoaded f s).view m r = s.view m r := by
  refine view_congr_live (blockLoaded_mode f s) (by rw [blockLoaded_eq]) (by rw [blockLoaded_eq]) fun same => ?_
  have untouched := fun k => h ⟨k, same⟩
  rw [reg_blockLoaded_unlisted f s (untouched ∘ .inl), if_neg (untouched ∘ .inr)]

theorem viewSpsr_blockLoaded (m : Mode) : (blockLoaded f s).viewSpsr m = s.viewSpsr m :=
  viewSpsr_congr (blockLoaded_mode f s) (by rw [blockLoaded_eq]) (blockLoaded_spsr f s) m

theorem sameMemory_blockLoaded : SameMemory s (blockLoaded f s) := by
  rw [blockLoaded_eq]; exact ⟨fun _ => rfl, rfl, rfl⟩

/-- A block load charges its transfers (R503, R505). -/
theorem blockLoaded_timing {r : Reg} (h : InList f.rlist r) :
    (blockLoaded f s).cycles =
      s.cycles + blockCharge (startAddress f.p f.u (s.reg f.rn) (listSize f.rlist)) (listSize f.rlist) ∧
    (blockLoaded f s).fetchNonSeq = true := by
  obtain ⟨n, hn⟩ : ∃ n, listSize f.rlist = n + 1 :=
    Nat.exists_eq_succ_of_ne_zero (listSize_eq f.rlist ▸ (List.length_pos_of_mem ((mem_registersOf f.rlist r).2 h)).ne')
  simp only [blockLoaded, blockStart_eq, ← listSize_eq, hn]
  rw [State.writeLoaded_live_eq]
  cases f.w with
  | false => exact ⟨blockCost_cycles s n _, State.blockCost_fetchNonSeq s _ false n⟩
  | true => exact ⟨blockCost_cycles s n _, State.blockCost_fetchNonSeq s _ false n⟩

end

/-- The word at the slot of register 15. -/
def blockPc (f : BdtForm) (s : State) : Word :=
  s.wordAt (slot (startAddress f.p f.u (s.reg f.rn) (listSize f.rlist)) f.rlist 15#4)

/-- The state LDM with S and register 15 answers: the loaded state, returned from, and one more cycle. -/
def blockReturned (f : BdtForm) (s : State) (m : Mode) : State :=
  (returned (blockLoaded f s) m (blockPc f s)).internalCycle

theorem loadMultiple_restore {f : BdtForm} {s : State} {m : Mode} (hs : f.s = true) (h15 : InList f.rlist 15#4)
    (husr : s.mode ≠ .usr) (hsys : s.mode ≠ .sys) (hm : modeNumber m = s.spsr.extractLsb' 0 5) :
    loadMultiple f s = .next (blockReturned f s m) := by
  have bit : f.rlist.getLsbD 15 = true := h15
  have notEmpty : f.rlist ≠ 0#16 := by
    intro e
    rw [e] at bit
    exact absurd bit (by decide)
  obtain ⟨before, after, e, hbefore, -⟩ := blockData_split s f.rlist 15#4 h15 (blockStart f.p f.u (s.reg f.rn) f.rlist)
  have ret := returnFromException_of_mode (s := blockLoaded f s) (m := m) (by rwa [blockLoaded_mode])
    (by rwa [blockLoaded_mode]) (by rwa [blockLoaded_spsr])
  have spsr := hasSpsr_of_privileged husr hsys
  simp only [loadMultiple, if_neg notEmpty, hs, bit, spsr, Bool.not_true, Bool.and_false, Bool.and_true,
    Bool.false_eq_true, if_true, if_false, loadedPc_eq e hbefore]
  rw [blockReturned, blockPc, ← blockStart_eq]
  exact congrArg (Result.andThen · fun t => .next t.internalCycle) (ret _)

section
variable (f : BdtForm) (s : State) (m : Mode)

theorem view_blockReturned (m' : Mode) {r : Reg} (hr : r ≠ Reg.pc) :
    (blockReturned f s m).view m' r = (blockLoaded f s).view m' r := view_returned (blockLoaded f s) m _ m' hr

/-- The mode the instruction started in sees the registers it loaded. -/
theorem view_blockReturned_old {r : Reg} (hr : r ≠ Reg.pc) :
    (blockReturned f s m).view s.mode r = (blockLoaded f s).reg r := by
  rw [view_blockReturned f s m s.mode hr, ← view_mode, blockLoaded_mode]

theorem sameViews_blockReturned (h15 : InList f.rlist 15#4) :
    SameViewsBut s (blockReturned f s m) fun m' r =>
      (InList f.rlist r ∨ (f.w = true ∧ r = f.rn)) ∧ SamePhysical m' s.mode r := by
  refine ⟨fun m' r h => ?_, fun m' => ?_⟩
  · have hr : r ≠ Reg.pc := by
      rintro rfl
      exact h ⟨.inl h15, samePhysical_shared (by decide) (by decide) (by decide)⟩
    rw [view_blockReturned f s m m' hr, view_blockLoaded f s m' h]
  · exact (viewSpsr_returned (blockLoaded f s) m (blockPc f s) m').trans (viewSpsr_blockLoaded f s m')

theorem statusFrom_blockReturned : StatusFrom (blockReturned f s m) s.spsr := by
  have status := statusFrom_returned (blockLoaded f s) m (blockPc f s)
  rw [blockLoaded_spsr] at status
  exact status

theorem log_blockReturned : (blockReturned f s m).log = s.log :=
  (returned_log (blockLoaded f s) m (blockPc f s)).trans (by rw [blockLoaded_eq])

theorem sameMemory_blockReturned : SameMemory s (blockReturned f s m) := by
  obtain ⟨bytes, arm, thumb⟩ := sameMemory_returned (blockLoaded f s) m (blockPc f s)
  obtain ⟨bytes', arm', thumb'⟩ := sameMemory_blockLoaded f s
  exact ⟨fun a => (bytes a).trans (bytes' a), arm.trans arm', thumb.trans thumb'⟩

theorem charged_blockReturned (h15 : InList f.rlist 15#4) :
    Charged s (blockReturned f s.fetchCost m)
      (blockCharge (startAddress f.p f.u (s.reg f.rn) (listSize f.rlist)) (listSize f.rlist) + 1) true := by
  obtain ⟨cycles, seq⟩ := blockLoaded_timing f s.fetchCost h15
  have loaded : Charged s (blockLoaded f s.fetchCost)
      (blockCharge (startAddress f.p f.u (s.reg f.rn) (listSize f.rlist)) (listSize f.rlist)) true := by
    refine ⟨?_, seq, by rw [blockLoaded_eq]; rfl⟩
    rw [cycles, fetchCost_cycles]
    rfl
  obtain ⟨cycles, seq, cond⟩ := charged_returned _ m (blockPc f s.fetchCost) loaded
  exact ⟨congrArg (· + 1) cycles, seq, cond⟩

end

/-- Settles O49: the registers are loaded in the old mode, and the return changes what `returned` says. -/
theorem loadMultipleReturns : Obligations.LoadMultipleReturns := by
  intro f s m holds hs h15 husr hsys hm n start
  refine ⟨blockReturned f s.fetchCost m, ?_, returned_mode (blockLoaded f s.fetchCost) m (blockPc f s.fetchCost),
    statusFrom_blockReturned f s.fetchCost m, pc_returned (blockLoaded f s.fetchCost) m (blockPc f s.fetchCost),
    fun r hr hpc => ?_, fun hw hbase => ?_, sameViews_blockReturned f s.fetchCost m h15,
    sameMemory_blockReturned f s.fetchCost m, log_blockReturned f s.fetchCost m, charged_blockReturned f s m h15⟩
  · exact (prologue_of_holds holds _).trans (loadMultiple_restore hs h15 husr hsys hm)
  · exact (view_blockReturned_old f s.fetchCost m hpc).trans (reg_blockLoaded_listed f s.fetchCost hr hpc)
  · have hpc : f.rn ≠ Reg.pc := fun e => hbase (e ▸ h15)
    refine (view_blockReturned_old f s.fetchCost m hpc).trans ((reg_blockLoaded_unlisted f s.fetchCost hbase).trans ?_)
    exact if_pos ⟨hw, rfl⟩

end Sys2Proof.Proofs
end

section
/-!
PROOF. The reference memory agent (spec/20_memory.md R67 to R71, R84): what a store writes and invalidates, what each read
returns at aligned and misaligned addresses, and what the reads return after a word store.
-/

namespace Sys2Proof.Proofs

open Sys2Proof.Machine Sys2Proof.Claims

/-! ### Stores -/

/-- The addresses a store writes, whatever the bytes: `j` counts from the aligned address. -/
theorem exists_storedByte_iff (w : Width) (a v : Word) (P : Word → Prop) :
    (∃ c b, StoredByte w a v c b ∧ P c) ↔ ∃ j, j < w.bytes ∧ P (w.storeBase a + BitVec.ofNat 32 j) := by
  constructor
  · rintro ⟨_, _, ⟨j, hj, rfl, -⟩, hP⟩
    exact ⟨j, hj, hP⟩
  · rintro ⟨j, hj, hP⟩
    exact ⟨_, _, ⟨j, hj, rfl, rfl⟩, hP⟩

theorem mem_icacheArm_memWrite (s : State) (w : Width) (a v : Word) (e : Nat × DecodedOp) :
    e ∈ (s.memWrite w a v).icacheArm ↔
      e ∈ s.icacheArm ∧ ¬ ∃ c b, StoredByte w a v c b ∧ (alignWord c).toNat = e.1 := by
  rw [exists_storedByte_iff w a v fun c => (alignWord c).toNat = e.1, State.memWrite_eq, State.mem_icacheArm_invalidate,
    State.storeBytes_icacheArm]
  simp only [not_exists, not_and, ne_eq]

theorem mem_icacheThumb_memWrite (s : State) (w : Width) (a v : Word) (e : Nat × DecodedOp) :
    e ∈ (s.memWrite w a v).icacheThumb ↔
      e ∈ s.icacheThumb ∧ ¬ ∃ c b, StoredByte w a v c b ∧ (alignHalf c).toNat = e.1 := by
  rw [exists_storedByte_iff w a v fun c => (alignHalf c).toNat = e.1, State.memWrite_eq, State.mem_icacheThumb_invalidate,
    State.storeBytes_icacheThumb]
  simp only [not_exists, not_and, ne_eq]

/-- Settles O28: the bytes are the memory laws of a store, the cache entries those of the invalidation that ends it. -/
theorem storeWritesItsBytes : Obligations.StoreWritesItsBytes := by
  intro s w a v
  refine ⟨?_, fun c other => ?_, mem_icacheArm_memWrite s w a v, mem_icacheThumb_memWrite s w a v⟩
  · rintro _ _ ⟨j, hj, rfl, rfl⟩
    exact s.byteAt_memWrite_stored w a v j hj
  · exact s.byteAt_memWrite_other w a v c fun ⟨j, hj, e⟩ => other _ ⟨j, hj, e, rfl⟩

/-! ### Aligned and misaligned addresses -/

theorem and_three_toNat (a : Word) : (a &&& 3#32).toNat = a.toNat % 4 :=
  (BitVec.toNat_and a 3#32).trans (Nat.and_two_pow_sub_one_eq_mod a.toNat 2)

theorem and_one_toNat (a : Word) : (a &&& 1#32).toNat = a.toNat % 2 :=
  (BitVec.toNat_and a 1#32).trans (Nat.and_one_is_mod a.toNat)

theorem mod_four_of_aligned {a : Word} (h : a &&& 3#32 = 0#32) : a.toNat % 4 = 0 :=
  (and_three_toNat a).symm.trans (congrArg BitVec.toNat h)

theorem alignWord_of_aligned {a : Word} (h : a &&& 3#32 = 0#32) : alignWord a = a := by
  have low := mod_four_of_aligned h
  refine BitVec.eq_of_toNat_eq ?_
  rw [alignWord_toNat]
  omega

theorem mod_two_of_even {a : Word} (h : a &&& 1#32 = 0#32) : a.toNat % 2 = 0 :=
  (and_one_toNat a).symm.trans (congrArg BitVec.toNat h)

theorem mod_two_of_odd {a : Word} (h : a &&& 1#32 = 1#32) : a.toNat % 2 = 1 :=
  (and_one_toNat a).symm.trans (congrArg BitVec.toNat h)

theorem alignHalf_of_even {a : Word} (h : a &&& 1#32 = 0#32) : alignHalf a = a := by
  have low := mod_two_of_even h
  refine BitVec.eq_of_toNat_eq ?_
  rw [alignHalf_toNat]
  omega

theorem alignHalf_of_odd {a : Word} (h : a &&& 1#32 = 1#32) : alignHalf a = a - 1#32 := by
  have low := mod_two_of_odd h
  have := a.isLt
  refine BitVec.eq_of_toNat_eq ?_
  rw [alignHalf_toNat, BitVec.toNat_sub, BitVec.toNat_ofNat]
  omega

theorem getLsbD_zero_of_even {a : Word} (h : a &&& 1#32 = 0#32) : a.getLsbD 0 = false := by
  rw [getLsbD_zero_eq, mod_two_of_even h]; rfl

theorem getLsbD_zero_of_odd {a : Word} (h : a &&& 1#32 = 1#32) : a.getLsbD 0 = true := by
  rw [getLsbD_zero_eq, mod_two_of_odd h]; rfl

/-! ### Loads -/

/-- A word read is the word of its granule, rotated by the lane (R69). -/
theorem memRead_word (s : State) (a : Word) :
    s.memRead .word a = (s.wordAt (alignWord a)).rotateRight (8 * (a.toNat % 4)) := by
  have lane : (a.extractLsb' 0 2).toNat = a.toNat % 4 := by rw [BitVec.extractLsb'_toNat, Nat.shiftRight_zero]
  rw [State.memRead, State.load32, lane]

theorem memRead_word_of_aligned (s : State) {a : Word} (h : a &&& 3#32 = 0#32) : s.memRead .word a = s.wordAt a := by
  have read := memRead_alignWord s a
  rwa [alignWord_of_aligned h] at read

theorem memRead_half_of_even (s : State) {a : Word} (h : a &&& 1#32 = 0#32) :
    s.memRead .half a = (s.halfAt a).setWidth 32 := by
  simp only [State.memRead, State.loadU16, getLsbD_zero_of_even h, alignHalf_of_even h, Bool.false_eq_true, if_false]

theorem memRead_signedHalf_of_even (s : State) {a : Word} (h : a &&& 1#32 = 0#32) :
    s.memRead .signedHalf a = (s.halfAt a).signExtend 32 := by
  simp only [State.memRead, State.load16, getLsbD_zero_of_even h, Bool.false_eq_true, if_false]

theorem memRead_signedHalf_of_odd (s : State) {a : Word} (h : a &&& 1#32 = 1#32) :
    s.memRead .signedHalf a = (s.byteAt a).signExtend 32 := by
  simp only [State.memRead, State.load16, getLsbD_zero_of_odd h, if_true]

/-- A halfword rotated right by 8: its low byte goes to the top, its high byte to the bottom. -/
theorem rotateRight_halfword (hi lo : Byte) : ((hi ++ lo).setWidth 32).rotateRight 8 = lo ++ 0#16 ++ hi := by
  refine BitVec.eq_of_getLsbD_eq fun k hk => ?_
  simp only [BitVec.getLsbD_rotateRight, BitVec.getLsbD_setWidth, BitVec.getLsbD_append, BitVec.getLsbD_zero]
  by_cases low : k < 8
  · simp [low, show k < 24 by omega, show 8 + k < 32 by omega]
  · by_cases middle : k < 24
    · simp [low, middle, show k - 8 < 16 by omega, BitVec.getLsbD_of_ge hi k (by omega)]
    · simp [low, middle, hk, show ¬ k - 8 < 16 by omega, show k - 8 - 16 = k - 24 by omega, show k - 24 < 8 by omega,
        show k - 24 < 32 by omega]

/-- An odd halfword read holds the addressed byte at the bottom and the one before it at the top (R70). -/
theorem memRead_half_of_odd (s : State) {a : Word} (h : a &&& 1#32 = 1#32) :
    s.memRead .half a = s.byteAt (a - 1#32) ++ 0#16 ++ s.byteAt a := by
  simp only [State.memRead, State.loadU16, State.halfAt, getLsbD_zero_of_odd h, alignHalf_of_odd h, if_true,
    BitVec.sub_add_cancel, rotateRight_halfword]

/-- Settles O30: an aligned read gives the bytes in order, a misaligned one the granule's, rotated or sign-extended. -/
theorem loadLanes : Obligations.LoadLanes := by
  intro s a
  refine ⟨rfl, rfl, memRead_word_of_aligned s, ?_,
    fun even => ⟨memRead_half_of_even s even, memRead_signedHalf_of_even s even⟩,
    fun odd => ⟨memRead_half_of_odd s odd, memRead_signedHalf_of_odd s odd⟩⟩
  exact (memRead_word s a).trans (congrArg (BitVec.rotateRight · _) (memRead_alignWord s a).symm)

/-! ### Loads after a word store -/

/-- The four bytes of a word, put together, are the word. -/
theorem append_bytes (v : Word) :
    v.extractLsb' 24 8 ++ v.extractLsb' 16 8 ++ v.extractLsb' 8 8 ++ v.extractLsb' 0 8 = v := by
  rw [BitVec.extractLsb'_append_extractLsb'_eq_extractLsb' (show 24 = 16 + 8 from rfl),
    BitVec.extractLsb'_append_extractLsb'_eq_extractLsb' (show 16 = 8 + 8 from rfl),
    BitVec.extractLsb'_append_extractLsb'_eq_extractLsb' (show 8 = 0 + 8 from rfl)]
  exact BitVec.extractLsb'_eq_self

section
variable (s : State) {a : Word} (v : Word) (aligned : a &&& 3#32 = 0#32)
include aligned

theorem byteAt_storeWord {j : Nat} (hj : j < 4) :
    (s.memWrite .word a v).byteAt (a + BitVec.ofNat 32 j) = v.extractLsb' (8 * j) 8 := by
  have stored := s.byteAt_memWrite_stored .word a v j hj
  rwa [Width.storeBase, alignWord_of_aligned aligned] at stored

theorem byteAt_storeWord_first : (s.memWrite .word a v).byteAt a = v.extractLsb' 0 8 := by
  have first := byteAt_storeWord s v aligned (j := 0) (by decide)
  rwa [BitVec.add_zero] at first

theorem wordAt_storeWord : (s.memWrite .word a v).wordAt a = v := by
  rw [State.wordAt, byteAt_storeWord_first s v aligned, byteAt_storeWord s v aligned (j := 1) (by decide),
    byteAt_storeWord s v aligned (j := 2) (by decide), byteAt_storeWord s v aligned (j := 3) (by decide)]
  exact append_bytes v

/-- A word read of the stored word at lane `j` gives it rotated by `j` bytes (R69). -/
theorem memRead_word_storeWord {j : Nat} (hj : j < 4) :
    (s.memWrite .word a v).memRead .word (a + BitVec.ofNat 32 j) = v.rotateRight (8 * j) := by
  have granule : alignWord (a + BitVec.ofNat 32 j) = a := by
    have add := alignWord_add a hj
    rwa [alignWord_of_aligned aligned] at add
  have lane : (a + BitVec.ofNat 32 j).toNat % 4 = j := by
    have := mod_four_of_aligned aligned
    rw [BitVec.toNat_add, BitVec.toNat_ofNat]
    omega
  rw [memRead_word, granule, lane, wordAt_storeWord s v aligned]

/-- A byte read of the stored word gives its byte `j` (R67). -/
theorem memRead_byte_storeWord {j : Nat} (hj : j < 4) :
    (s.memWrite .word a v).memRead .byte (a + BitVec.ofNat 32 j) = (v.extractLsb' (8 * j) 8).setWidth 32 :=
  congrArg (BitVec.setWidth 32) (byteAt_storeWord s v aligned hj)

/-- A halfword read of the stored word at an even lane gives two of its bytes (R67). -/
theorem memRead_half_storeWord {j : Nat} (hj : j < 3) (even : j % 2 = 0) :
    (s.memWrite .word a v).memRead .half (a + BitVec.ofNat 32 j) = (v.extractLsb' (8 * j) 16).setWidth 32 := by
  have low : (a + BitVec.ofNat 32 j) &&& 1#32 = 0#32 := by
    have := mod_four_of_aligned aligned
    refine BitVec.eq_of_toNat_eq ?_
    rw [and_one_toNat, BitVec.toNat_add, BitVec.toNat_ofNat, BitVec.toNat_ofNat]
    omega
  have next : a + BitVec.ofNat 32 j + 1#32 = a + BitVec.ofNat 32 (j + 1) := by
    rw [BitVec.add_assoc, ← BitVec.ofNat_add]
  rw [memRead_half_of_even _ low, State.halfAt, next, byteAt_storeWord s v aligned (by omega),
    byteAt_storeWord s v aligned (by omega), BitVec.extractLsb'_append_extractLsb'_eq_extractLsb' (by omega)]

end

/-- Settles O29: every read is of the word, the bytes or the halfwords at a lane of the stored word. -/
theorem storeThenLoad : Obligations.StoreThenLoad := by
  intro s a v aligned t
  have word := fun j => memRead_word_storeWord s v aligned (j := j)
  have byte := fun j => memRead_byte_storeWord s v aligned (j := j)
  have half := fun j => memRead_half_storeWord s v aligned (j := j)
  have word0 := (memRead_word_of_aligned t aligned).trans (wordAt_storeWord s v aligned)
  have byte0 := byte 0 (by decide)
  have half0 := half 0 (by decide) (by decide)
  rw [BitVec.add_zero] at byte0 half0
  exact ⟨word0, word 1 (by decide), word 2 (by decide), word 3 (by decide), byte0, byte 1 (by decide), byte 2 (by decide),
    byte 3 (by decide), half0, half 2 (by decide) (by decide)⟩

end Sys2Proof.Proofs
end

section
/-!
PROOF. The execution engine (spec/40_execution_engine.md R151 to R160): what a fetch decodes, the state in which the
operation of a step starts, the write-PC path after it, and the failed condition.
-/

namespace Sys2Proof.Proofs

open Sys2Proof.Machine Sys2Proof.Claims

/-! ### The frame of the engine -/

/-- Registers and the per-step bookkeeping stand outside flags, status, banks, memory, the cache and the log. -/
theorem frame_registers_timing (s : State) (x : Vector Word 16) (cycles : Nat) (nonSeq passed : Bool) :
    let t := { s with x := x, cycles := cycles, fetchNonSeq := nonSeq, condPassed := passed }
    SameFlags s t ∧ SameRest s t ∧ SameMemory s t :=
  ⟨⟨rfl, rfl, rfl, rfl⟩, ⟨⟨rfl, rfl, rfl, rfl⟩, ⟨rfl, rfl, rfl⟩, rfl⟩, fun _ => rfl, rfl, rfl⟩

/-! ### The write-PC path (R157) -/

/-- The hand-off after the write-PC path changes nothing (R158, log 8). -/
theorem finish_eq_writePcPath (s : State) (w : Bool) : s.finish w = s.writePcPath w := rfl

theorem frame_finish (s : State) (w : Bool) :
    SameFlags s (s.finish w) ∧ SameRest s (s.finish w) ∧ SameMemory s (s.finish w) := by
  rw [s.finish_eq w]
  exact frame_registers_timing s _ _ _ s.condPassed

/-- Without a passed PC write, the write-PC path leaves the PC alone. -/
theorem pc_finish_kept {s : State} {w : Bool} (h : w = false ∨ s.condPassed = false) : (s.finish w).pc = s.pc := by
  cases w with
  | false => rw [State.finish_false]
  | true => rw [State.finish_failed (h.resolve_left nofun)]; rfl

/-- A passed PC write is realigned and advanced by the width of the new `T`. -/
theorem pc_finish_passed {s : State} (h : s.condPassed = true) : (s.finish true).pc = alignHalf s.pc + s.width := by
  rw [State.finish_passed h, State.pc_setPc]

/-- Settles O8: the path's three cases by `finish_false`, `finish_failed` and `finish_passed`. -/
theorem writePcPath : Obligations.WritePcPath := by
  intro s
  refine ⟨s.finish_false, State.finish_failed, fun passed => ?_⟩
  obtain ⟨flags, rest, bytes, -⟩ := frame_finish s true
  have path : s.writePcPath true = _ := State.finish_passed passed
  have pc : (s.writePcPath true).pc = alignHalf s.pc + s.width := pc_finish_passed passed
  have width : (s.writePcPath true).width = s.width := by rw [path]; rfl
  refine ⟨pc, ?_, by rw [path]; rfl, by rw [path]; rfl, by rw [path]; exact passed, fun r hr => ?_, flags, rest, bytes⟩
  · rw [State.fetchAddress, pc, width, BitVec.add_sub_cancel]; rfl
  · rw [path, State.reg_setPc_ne _ _ hr, State.reg_refillCost]

/-! ### The bytes a fetch decodes (R63, R82, R85) -/

/-- How `decodeBytes` answers the bytes of one operation. -/
def decodingOf (st : ExecState) : OpKind → Except DecodeError (Instr × List Byte)
  | .instr i => .ok (i, [])
  | .illegal w => .error (.illegal st w)

theorem fetchKey_eq_arm {s : State} (ht : s.t = false) : s.fetchKey = alignWord (s.pc - 4#32) := by
  simp [State.fetchKey, State.fetchAddress, State.width, ht]

theorem fetchKey_eq_thumb {s : State} (ht : s.t = true) : s.fetchKey = s.pc - 2#32 := by
  simp [State.fetchKey, State.fetchAddress, State.width, ht]

/-- In ARM state the word of the four bytes at the key is decoded. -/
theorem fetchWord_arm {s : State} (ht : s.t = false) : s.fetchWord = s.wordAt (alignWord (s.pc - 4#32)) := by
  rw [State.fetchWord, if_neg (by simp [ht]), fetchKey_eq_arm ht]
  exact memRead_alignWord s (s.pc - 4#32)

/-- In Thumb state, at an even PC, the halfword of the two bytes at the key is decoded. -/
theorem fetchWord_thumb {s : State} (ht : s.t = true) (hpc : s.pc.getLsbD 0 = false) :
    s.fetchWord.extractLsb' 0 16 = s.halfAt (s.pc - 2#32) := by
  have key := fetchKey_thumb ht hpc
  rw [fetchKey_eq_thumb ht] at key
  have even : (s.pc - 2#32) &&& 1#32 = 0#32 := BitVec.eq_of_toNat_eq ((and_one_toNat _).trans key)
  have read : s.fetchWord = (s.halfAt (s.pc - 2#32)).setWidth 32 := by
    rw [State.fetchWord, if_pos ht, fetchKey_eq_thumb ht]
    exact memRead_half_of_even s even
  rw [read]
  refine BitVec.eq_of_getLsbD_eq fun k hk => ?_
  simp [hk, show k < 32 by omega]

theorem decodeBytes_arm (b0 b1 b2 b3 : Byte) :
    decodeBytes .arm [b0, b1, b2, b3] = decodingOf .arm (decodeOp (b3 ++ b2 ++ b1 ++ b0) .arm).kind := by
  cases decoded : decodeArm (b3 ++ b2 ++ b1 ++ b0) <;> simp only [decodeBytes, decodeOp, decoded, decodingOf]

theorem decodeBytes_thumb {b0 b1 : Byte} {w : Word} (hw : w.extractLsb' 0 16 = b1 ++ b0) :
    decodeBytes .thumb [b0, b1] = decodingOf .thumb (decodeOp w .thumb).kind := by
  cases decoded : decodeThumb (b1 ++ b0) <;> simp only [decodeBytes, decodeOp, hw, decoded, decodingOf]

/-- The bytes at the next fetch decode to the operation the fetch decodes. -/
theorem decodeBytes_fetchedBytes {s : State} (hpc : s.pc.getLsbD 0 = false) :
    decodeBytes s.execState (fetchedBytes s) = decodingOf s.execState s.decodedAtFetch.kind := by
  cases ht : s.t with
  | false =>
    have arm : s.execState = .arm := by rw [State.execState, ht]; rfl
    rw [State.decodedAtFetch, arm, fetchWord_arm ht, fetchedBytes, ht]
    exact decodeBytes_arm _ _ _ _
  | true =>
    have thumb : s.execState = .thumb := by rw [State.execState, ht]; rfl
    rw [State.decodedAtFetch, thumb, fetchedBytes, ht]
    exact decodeBytes_thumb (fetchWord_thumb ht hpc)

/-- Under the invariant the bytes at the next fetch decode to the operation the step runs. -/
theorem decodeBytes_eq_fetch {s : State} (h : s.Inv) :
    decodeBytes s.execState (fetchedBytes s) = decodingOf s.execState s.fetch.1.kind := by
  rw [fetch_op_of_storageInv (storageInv_of_inv h), decodeBytes_fetchedBytes h.pcEven]

/-! ### The state an operation starts in (R151, R153, R154) -/

/-- A fetch touches one entry at most, in the half of the cache that T selects (R82, log 12). -/
theorem advanced_fetch_advance (s : State) : Advanced s s.fetch.2.advance := by
  refine ⟨by rw [s.fetch_eq]; rfl, ?_⟩
  simp only [State.advance_icacheArm, State.advance_icacheThumb, State.fetch]
  cases s.cachedOp with
  | some op => simp
  | none =>
    cases ht : s.t with
    | false => simp +contextual [State.fillCache, ht, SortedMap.find_insert, fetchKey_eq_arm ht, alignWord]
    | true => simp +contextual [State.fillCache, ht, SortedMap.find_insert, fetchKey_eq_thumb ht]

theorem pc_fetch_advance (s : State) : s.fetch.2.advance.pc = s.pc + s.width := by
  rw [s.fetch_eq]; exact State.pc_setPc _ _

/-- Settles O6: the fetch yields what its bytes decode to, and `step_cases` says what the step does with it. -/
theorem stepRunsDecodedInstruction : Obligations.StepRunsDecodedInstruction := by
  refine ⟨fun s i rest h decoded => ⟨s.fetch.2.advance, advanced_fetch_advance s, ?_⟩, fun t w =>
    ⟨finish_eq_writePcPath t w, (frame_finish t w).2.2⟩⟩
  rw [decodeBytes_eq_fetch h] at decoded
  rcases step_cases s with ⟨w, hk, -⟩ | ⟨j, hk, run⟩ <;> rw [hk] at decoded
  · nomatch decoded
  · cases decoded
    rw [run, (fetched_instr h hk).2]

/-- Settles O9: an operation that cannot write the PC, or whose condition failed, leaves it as advanced; the write-PC
path says the rest. -/
theorem pcAfterStep : Obligations.PcAfterStep := by
  intro s t h hstep
  have even := (stepKeepsInvariant s t h hstep).pcEven
  rcases step_cases s with ⟨w, -, run⟩ | ⟨i, hk, run⟩ <;> rw [run] at hstep
  · nomatch hstep
  · obtain ⟨u, hu, ht⟩ := Result.andThen_eq_next hstep
    cases ht
    have does := exec_fetched_does h hk
    rw [(fetched_instr h hk).2] at does even ⊢
    rw [hu] at does
    refine ⟨i, s.fetch.2.advance, u, advanced_fetch_advance s, by rw [decodeBytes_eq_fetch h, hk]; rfl, hu,
      fun kept => ?_, fun writes passed => ?_, even⟩
    · rw [pc_finish_kept kept, does.2 kept, pc_fetch_advance]; rfl
    · rw [writes, pc_finish_passed passed]; rfl

/-! ### The failed condition (R156) -/

/-- Settles O10: behind a failed condition the prologue is all that runs. -/
theorem failedConditionDoesNothing : Obligations.FailedConditionDoesNothing := by
  intro i c s hc fails
  obtain ⟨body, prologue⟩ := exec_prologue hc
  obtain ⟨flags, rest, memory⟩ := frame_registers_timing s s.x s.fetchCost.cycles false false
  exact ⟨_, (prologue s).trans (prologue_of_not_holds fails body), fun _ _ => rfl, flags, rest, memory,
    fetchCost_cycles s, rfl, rfl⟩

end Sys2Proof.Proofs
end

section
/-!
PROOF. What a fault of an operation leaves behind (R453): which instructions raise one, and the state at the point of the
raise. Data processing has charged its operands, a status transfer its fetch alone, LDM its fetch alone or its register
writes too.
-/

namespace Sys2Proof.Proofs

open Sys2Proof.Machine Sys2Proof.Claims

/-! ### The operations that raise -/

/-- An operation after another faults where the first does, or where it does itself. -/
theorem andThen_eq_fault {r : Result} {k : State → Result} {e : Fault} (h : r.andThen k = .fault e) :
    r = .fault e ∨ ∃ t, r = .next t ∧ k t = .fault e := by
  cases r with
  | next t => exact .inr ⟨t, rfl, h⟩
  | fault _ => exact .inl h
  | refused _ => nomatch h

theorem returnFromException_eq_fault {s : State} {target : Word} {e : Fault}
    (h : s.returnFromException target = .fault e) :
    e = .invariantViolation (if s.mode.hasSpsr then .badMode else .noSpsr) s := by
  rcases s.returnFromException_cases target with ⟨mode, r⟩ | ⟨mode, -, r⟩ | ⟨t, -, -, r⟩ <;> rw [r] at h <;> cases h
  · rw [mode]; rfl
  · rw [mode]; rfl

/-- Data processing raises in its exception return alone, with its operands computed (R213). -/
theorem dataProcessingBody_eq_fault {op : DpOp} {set : Bool} {rn rd : Reg} {form : Operand2} {s : State} {e : Fault}
    (h : dataProcessingBody op set rn rd form s = .fault e) :
    set = true ∧ rd = Reg.pc ∧ ∃ k, e = .invariantViolation k (s.shifted form) := by
  rw [dataProcessingBody_eq] at h
  split at h
  · nomatch h
  · split at h
    · next hrd =>
      split at h
      · next hset => exact ⟨hset, hrd, _, returnFromException_eq_fault h⟩
      · nomatch h
    · nomatch h

theorem moveFromStatus_eq_fault {f : MrsForm} {s : State} {e : Fault} (h : moveFromStatus f s = .fault e) :
    e = .invariantViolation .noSpsr s := by
  unfold moveFromStatus at h
  repeat' split at h
  all_goals cases h
  rfl

theorem moveToStatus_eq_fault {r : Bool} {mask : FieldMask} {op : Word} {s : State} {e : Fault}
    (h : moveToStatus r mask op s = .fault e) : ∃ k, e = .invariantViolation k s := by
  unfold moveToStatus at h
  repeat' split at h
  all_goals cases h
  all_goals exact ⟨_, rfl⟩

/-- LDM raises `NoSPSR` before it does anything, `BadMode` after its register writes (R303, R307). -/
theorem loadMultiple_eq_fault {f : BdtForm} {s : State} {e : Fault} (h : loadMultiple f s = .fault e) :
    e = .invariantViolation .noSpsr s ∨ (InList f.rlist 15#4 ∧ e = .invariantViolation .badMode (blockLoaded f s)) := by
  unfold loadMultiple at h
  split at h
  · nomatch h
  simp only at h
  split at h
  · cases h; exact .inl rfl
  next spsr =>
  split at h
  · next restore =>
    have h15 : f.rlist.getLsbD 15 = true := (Bool.and_eq_true_iff.1 restore).2
    have liveBank : (f.s && !f.rlist.getLsbD 15) = false := by rw [h15, Bool.not_true, Bool.and_false]
    have mode : s.mode.hasSpsr = true := by
      simpa only [restore, Bool.true_and, Bool.not_eq_true', Bool.not_eq_false] using spsr
    rw [liveBank] at h
    rcases andThen_eq_fault (r := (blockLoaded f s).returnFromException _) h with h | ⟨t, -, h⟩
    · rw [returnFromException_eq_fault h, blockLoaded_mode, mode]
      exact .inr ⟨h15, rfl⟩
    · nomatch h
  · split at h <;> nomatch h

/-! ### The operations that do not raise -/

variable {s : State} {e : Fault}

theorem prologue_ne_fault {c : Cond} {body : State → Result} (h : ∀ u, body u ≠ .fault e) :
    s.prologue c body ≠ .fault e :=
  fun raised => h s.fetchCost (State.prologue_eq_fault raised)

theorem multiply_ne_fault (acc : Bool) (f : MulForm) : multiply acc f s ≠ .fault e := by
  refine prologue_ne_fault fun u => ?_
  nofun

theorem multiplyLong_ne_fault (product : Word → Word → BitVec 64) (cycles : Word → Nat) (acc : Bool) (f : MulLong) :
    multiplyLong product cycles acc f s ≠ .fault e := by
  refine prologue_ne_fault fun u => ?_
  nofun

theorem push_ne_fault (f : TPushPop) : push f s ≠ .fault e := by
  simp only [push]; split <;> nofun

theorem pop_ne_fault (f : TPushPop) : pop f s ≠ .fault e := by
  simp only [pop]; split <;> nofun

theorem thumbStoreMultiple_ne_fault (f : TBlock) : thumbStoreMultiple f s ≠ .fault e := by
  simp only [thumbStoreMultiple]; split <;> nofun

theorem thumbLoadMultiple_ne_fault (f : TBlock) : thumbLoadMultiple f s ≠ .fault e := by
  simp only [thumbLoadMultiple]; split <;> nofun

theorem storeMultiple_ne_fault (f : BdtForm) : storeMultiple f s ≠ .fault e := by
  simp only [storeMultiple]; split <;> nofun

/-! ### The instructions that raise -/

/-- The faults of the instructions, each with the state it leaves. -/
inductive Raises (s : State) : Instr → Fault → Prop where
  | dataProcessing {i op c rn form} (row : DpRow i op c true rn 15#4 form) (k : InvariantKind) :
    Raises s i (.invariantViolation k (s.fetchCost.shifted form))
  | moveFromStatus (f : MrsForm) : Raises s (.mrs f) (.invariantViolation .noSpsr s.fetchCost)
  | moveToStatus {i c r mask op} (row : MsrRow i c r mask op) (k : InvariantKind) :
    Raises s i (.invariantViolation k s.fetchCost)
  | loadNoSpsr (f : BdtForm) : Raises s (.ldm f) (.invariantViolation .noSpsr s.fetchCost)
  | loadBadMode (f : BdtForm) (h15 : InList f.rlist 15#4) :
    Raises s (.ldm f) (.invariantViolation .badMode (blockLoaded f s.fetchCost))

/-- A row of data processing raises as the common operation does, its fetch charged first. -/
theorem exec_dpRow_eq_fault {i : Instr} {op : DpOp} {c : Cond} {set : Bool} {rn rd : Reg} {form : Operand2}
    (row : DpRow i op c set rn rd form) (h : exec i s = .fault e) :
    set = true ∧ rd = Reg.pc ∧ ∃ k, e = .invariantViolation k (s.fetchCost.shifted form) := by
  rw [exec_dpRow s row] at h
  exact dataProcessingBody_eq_fault (State.prologue_eq_fault h)

theorem raises_dpRow {i : Instr} {op : DpOp} {c : Cond} {set : Bool} {rn rd : Reg} {form : Operand2}
    (row : DpRow i op c set rn rd form) (h : exec i s = .fault e) : Raises s i e := by
  obtain ⟨rfl, rfl, k, rfl⟩ := exec_dpRow_eq_fault row h
  exact .dataProcessing row k

/-- The operation of a data-processing instruction (R104); of any other it says nothing. -/
def dpOpOf : Instr → DpOp
  | .andImm _ | .andRegImm _ | .andRegReg _ => .and
  | .eorImm _ | .eorRegImm _ | .eorRegReg _ => .eor
  | .subImm _ | .subRegImm _ | .subRegReg _ => .sub
  | .rsbImm _ | .rsbRegImm _ | .rsbRegReg _ => .rsb
  | .addImm _ | .addRegImm _ | .addRegReg _ => .add
  | .adcImm _ | .adcRegImm _ | .adcRegReg _ => .adc
  | .sbcImm _ | .sbcRegImm _ | .sbcRegReg _ => .sbc
  | .rscImm _ | .rscRegImm _ | .rscRegReg _ => .rsc
  | .tstImm _ | .tstRegImm _ | .tstRegReg _ => .tst
  | .teqImm _ | .teqRegImm _ | .teqRegReg _ => .teq
  | .cmpImm _ | .cmpRegImm _ | .cmpRegReg _ => .cmp
  | .cmnImm _ | .cmnRegImm _ | .cmnRegReg _ => .cmn
  | .orrImm _ | .orrRegImm _ | .orrRegReg _ => .orr
  | .bicImm _ | .bicRegImm _ | .bicRegReg _ => .bic
  | .mvnImm _ | .mvnRegImm _ | .mvnRegReg _ => .mvn
  | _ => .mov

theorem dpRow_imm {i : Instr} {f : DpImm} (h : dpImmInstr (dpOpOf i) f = i) :
    DpRow i (dpOpOf i) f.cond f.s f.rn f.rd (.imm f.rot f.imm8) := by
  have row := DpRow.imm (dpOpOf i) f
  rwa [h] at row

theorem dpRow_regImm {i : Instr} {f : DpRegImm} (h : dpRegImmInstr (dpOpOf i) f = i) :
    DpRow i (dpOpOf i) f.cond f.s f.rn f.rd (.regImm f.rm f.ty f.amount5) := by
  have row := DpRow.regImm (dpOpOf i) f
  rwa [h] at row

theorem dpRow_regReg {i : Instr} {f : DpRegReg} (h : dpRegRegInstr (dpOpOf i) f = i) :
    DpRow i (dpOpOf i) f.cond f.s f.rn f.rd (.regReg f.rm f.ty f.rs) := by
  have row := DpRow.regReg (dpOpOf i) f
  rwa [h] at row

/-- What every instruction may raise, by the operation it runs. -/
theorem exec_raises {i : Instr} (h : exec i s = .fault e) : Raises s i e := by
  cases i with
  | andImm f | eorImm f | subImm f | rsbImm f | addImm f | adcImm f | sbcImm f | rscImm f | tstImm f | teqImm f
  | cmpImm f | cmnImm f | orrImm f | movImm f | bicImm f | mvnImm f =>
    exact raises_dpRow (dpRow_imm (f := f) rfl) h
  | andRegImm f | eorRegImm f | subRegImm f | rsbRegImm f | addRegImm f | adcRegImm f | sbcRegImm f | rscRegImm f
  | tstRegImm f | teqRegImm f | cmpRegImm f | cmnRegImm f | orrRegImm f | movRegImm f | bicRegImm f | mvnRegImm f =>
    exact raises_dpRow (dpRow_regImm (f := f) rfl) h
  | andRegReg f | eorRegReg f | subRegReg f | rsbRegReg f | addRegReg f | adcRegReg f | sbcRegReg f | rscRegReg f
  | tstRegReg f | teqRegReg f | cmpRegReg f | cmnRegReg f | orrRegReg f | movRegReg f | bicRegReg f | mvnRegReg f =>
    exact raises_dpRow (dpRow_regReg (f := f) rfl) h
  | mrs f =>
    obtain rfl := moveFromStatus_eq_fault (State.prologue_eq_fault h)
    exact .moveFromStatus f
  | msrReg f =>
    obtain ⟨k, rfl⟩ := moveToStatus_eq_fault (State.prologue_eq_fault h)
    exact .moveToStatus (.reg f) k
  | msrImm f =>
    obtain ⟨k, rfl⟩ := moveToStatus_eq_fault (State.prologue_eq_fault h)
    exact .moveToStatus (.imm f) k
  | ldm f =>
    rcases loadMultiple_eq_fault (State.prologue_eq_fault h) with rfl | ⟨h15, rfl⟩
    · exact .loadNoSpsr f
    · exact .loadBadMode f h15
  | stm f => exact absurd (State.prologue_eq_fault h) (storeMultiple_ne_fault f)
  | mul f | mla f => exact absurd h (multiply_ne_fault _ f)
  | umull f | umlal f | smull f | smlal f => exact absurd h (multiplyLong_ne_fault _ _ _ f)
  | swp f | swpb f | bx f | b f | bl f | stc f | ldc f | cdp f | mcr f | mrc f | swi f | strhReg f | strhImm f
  | strImmPre f | strImmPost f | strtImm f | strRegPre f | strRegPost f | strtReg f | strbImmPre f | strbImmPost f
  | strbtImm f | strbRegPre f | strbRegPost f | strbtReg f | ldrhReg f | ldrhImm f | ldrsbReg f | ldrsbImm f
  | ldrshReg f | ldrshImm f | ldrImmPre f | ldrImmPost f | ldrtImm f | ldrRegPre f | ldrRegPost f | ldrtReg f
  | ldrbImmPre f | ldrbImmPost f | ldrbtImm f | ldrbRegPre f | ldrbRegPost f | ldrbtReg f | tBeq o | tBne o | tBcs o
  | tBcc o | tBmi o | tBpl o | tBvs o | tBvc o | tBhi o | tBls o | tBge o | tBlt o | tBgt o | tBle o =>
    unfold exec at h
    refine absurd h (prologue_ne_fault (s := s) fun u => ?_)
    nofun
  | tPush f => exact absurd h (push_ne_fault f)
  | tPop f => exact absurd h (pop_ne_fault f)
  | tStmia f => exact absurd h (thumbStoreMultiple_ne_fault f)
  | tLdmia f => exact absurd h (thumbLoadMultiple_ne_fault f)
  | tLslImm f | tLsrImm f | tAsrImm f | tAddReg f | tSubReg f | tAddImm3 f | tSubImm3 f | tAdc f | tSbc f | tNeg f
  | tMovImm8 f | tAddImm8 f | tSubImm8 f | tCmpImm8 f | tTst f | tCmpReg f | tCmn f | tCmpHi f | tAnd f | tEor f
  | tOrr f | tBic f | tMvn f | tLslReg f | tLsrReg f | tAsrReg f | tRor f | tMul f | tAddHi f | tMovHi f | tBx f
  | tAddPc f | tAddSp f | tAddSpImm7 v | tSubSpImm7 v | tB o | tBlHi o | tBlLo o | tLdrPc f | tLdrSp f | tLdrReg f
  | tLdrbReg f | tLdsb f | tLdrhReg f | tLdsh f | tLdrImm f | tLdrbImm f | tLdrhImm f | tStrReg f | tStrbReg f
  | tStrhReg f | tStrImm f | tStrbImm f | tStrhImm f | tStrSp f | tSwi v =>
    nomatch h

/-! ### The state left behind (R453) -/

theorem not_dpRow_ldm {f : BdtForm} {op : DpOp} {c : Cond} {set : Bool} {rn rd : Reg} {form : Operand2} :
    ¬ DpRow (.ldm f) op c set rn rd form := by
  intro row
  generalize hi : Instr.ldm f = i at row
  cases row <;> cases op <;> nomatch hi

/-- A register that LDM does not load, register 15 among them, is the written base, or what it was. -/
theorem reg_blockLoaded_unloaded (f : BdtForm) (s : State) {r : Reg} (h : ¬ (InList f.rlist r ∧ r ≠ 15#4)) :
    (blockLoaded f s).reg r =
      if f.w = true ∧ r = f.rn then newBase f.u (s.reg f.rn) (listSize f.rlist) else s.reg r := by
  by_cases hr : r = 15#4
  · simp only [blockLoaded]
    rw [State.reg_writeLoaded_other _ _ _ (.inl hr)]
    cases f.w with
    | false => simp [State.reg_blockCost]
    | true => simp [State.reg_setReg, State.reg_blockCost, blockNewBase_eq]
  · exact reg_blockLoaded_unlisted f s fun listed => h ⟨listed, hr⟩

theorem charged_blockLoaded (f : BdtForm) (s : State) (h15 : InList f.rlist 15#4) :
    Charged s (blockLoaded f s.fetchCost)
      (blockCharge (startAddress f.p f.u (s.reg f.rn) (listSize f.rlist)) (listSize f.rlist)) true := by
  obtain ⟨cycles, seq⟩ := blockLoaded_timing f s.fetchCost h15
  refine ⟨?_, seq, by rw [blockLoaded_eq]; rfl⟩
  rw [cycles, fetchCost_cycles]
  rfl

/-- Whatever the fault, flags, status, banks, memory, the cache and the log are untouched. -/
theorem frame_of_raises {i : Instr} {k : InvariantKind} {l : State} (h : Raises s i (.invariantViolation k l)) :
    SameFlags s l ∧ SameRest s l ∧ SameMemory s l := by
  cases h with
  | dataProcessing | moveFromStatus | moveToStatus | loadNoSpsr =>
    exact frame_registers_timing s s.x _ false s.condPassed
  | loadBadMode f =>
    rw [blockLoaded_eq]
    exact frame_registers_timing s _ _ _ s.condPassed

/-- A fault other than LDM's `BadMode` has written no register. -/
theorem reg_of_raises {i : Instr} {k : InvariantKind} {l : State} (h : Raises s i (.invariantViolation k l))
    (early : k = .noSpsr ∨ ∀ f, i ≠ .ldm f) (r : Reg) : l.reg r = s.reg r := by
  cases h with
  | dataProcessing | moveFromStatus | moveToStatus | loadNoSpsr => rfl
  | loadBadMode f => exact absurd rfl (early.resolve_left nofun f)

/-- A fault other than LDM's `BadMode` has charged the fetch alone, but in data processing. -/
theorem charged_of_raises {i : Instr} {k : InvariantKind} {l : State} (h : Raises s i (.invariantViolation k l))
    (notDp : ∀ op c rn form, ¬ DpRow i op c true rn 15#4 form) (early : k = .noSpsr ∨ ∀ f, i ≠ .ldm f) :
    Charged s l 0 false := by
  cases h with
  | dataProcessing row => exact absurd row (notDp _ _ _ _)
  | moveFromStatus | moveToStatus | loadNoSpsr => exact charged_fetchCost s
  | loadBadMode f => exact absurd rfl (early.resolve_left nofun f)

/-- `BadMode` from LDM leaves the state of its register writes. -/
theorem left_ldm_badMode {f : BdtForm} {l : State} (h : Raises s (.ldm f) (.invariantViolation .badMode l)) :
    InList f.rlist 15#4 ∧ l = blockLoaded f s.fetchCost := by
  cases h with
  | dataProcessing row => exact absurd row not_dpRow_ldm
  | moveToStatus row => nomatch row
  | loadBadMode _ h15 => exact ⟨h15, rfl⟩

/-- Settles O13: `exec_raises` lists the faults with the states they leave, and each clause reads off those states. -/
theorem stateLeftByFault : Obligations.StateLeftByFault := by
  intro i s l k h
  have raises := exec_raises h
  obtain ⟨flags, rest, memory⟩ := frame_of_raises raises
  refine ⟨flags, rest, memory, fun early r _ => reg_of_raises raises early r, fun op c rn form row => ?_,
    charged_of_raises raises, ?_⟩
  · obtain ⟨-, -, _, left⟩ := exec_dpRow_eq_fault row h
    cases left
    exact charged_shifted s form
  · rintro f rfl rfl
    obtain ⟨h15, rfl⟩ := left_ldm_badMode raises
    refine ⟨charged_blockLoaded f s h15, fun r untouched => ?_, fun r => reg_blockLoaded_listed f s.fetchCost,
      fun hw unloaded => ?_⟩
    · rw [reg_blockLoaded_unloaded f _ (untouched ∘ .inl), if_neg (untouched ∘ .inr)]
      rfl
    · exact (reg_blockLoaded_unloaded f s.fetchCost unloaded).trans (if_pos ⟨hw, rfl⟩)

end Sys2Proof.Proofs
end

section
/-!
PROOF. The condition evaluator and the operand unit (spec/41_condition_and_operand.md R180 to R193): the predicate of each
condition, what each shift does at every amount, and what the three forms of operand 2 read.
-/

namespace Sys2Proof.Proofs

open Sys2Proof.Machine Sys2Proof.Claims

/-! ### The conditions (R181, R183) -/

/-- The evaluator decides the predicate of the condition; pattern 15 is `always` by the value of `COND15` (D12). -/
theorem conditionPassed_iff_holds (s : State) (c : Cond) : s.conditionPassed c = true ↔ Holds s c := by
  cases c with
  | eq | cs | mi | vs => exact Iff.rfl
  | al | nv => exact iff_of_true rfl trivial
  | ne | cc | pl | vc | hi | ls | ge | lt | gt | le => simp [State.conditionPassed, Holds]

/-- Settles O11: each row is the evaluator's law at the condition its number names. -/
theorem conditionTable : Obligations.ConditionTable := by
  intro s
  have row (c : Cond) := conditionPassed_iff_holds s c
  exact ⟨row .eq, row .ne, row .cs, row .cc, row .mi, row .pl, row .vs, row .vc, row .hi, row .ls, row .ge, row .lt,
    row .gt, row .le, row .al, row .nv, row⟩

/-! ### The logical and arithmetic shifts (R186 to R188) -/

/-- In a 33-bit word the last bit that a left shift moves out of 32 bits stands at position 32. -/
theorem lastShiftedOut_left (v : Word) {n : Nat} (pos : 0 < n) :
    (v.setWidth 33 <<< n).getLsbD 32 = if n ≤ 32 then v.getLsbD (32 - n) else false := by
  rw [BitVec.getLsbD_shiftLeft, BitVec.getLsbD_setWidth]
  split
  · next h => simp [h, show 32 - n < 33 by omega]
  · next h => simp [h]

/-- The last bit that a right shift moves out stands at position 0 before the last place. -/
theorem lastShiftedOut_logicalRight (v : Word) (n : Nat) : (v >>> n).getLsbD 0 = v.getLsbD n :=
  BitVec.getLsbD_ushiftRight v n 0

theorem lastShiftedOut_arithmeticRight (v : Word) (n : Nat) :
    (v.sshiftRight (n - 1)).getLsbD 0 = if n ≤ 31 then v.getLsbD (n - 1) else v.getLsbD 31 := by
  rw [BitVec.getLsbD_sshiftRight, BitVec.msb_eq_getLsbD_last]
  rcases Nat.lt_trichotomy n 32 with below | rfl | past
  · rw [if_pos (show n - 1 + 0 < 32 by omega), if_pos (show n ≤ 31 by omega)]
    rfl
  · rfl
  · rw [if_neg (show ¬ n - 1 + 0 < 32 by omega), if_neg (show ¬ n ≤ 31 by omega)]
    rfl

/-- Past the word's width an arithmetic shift leaves copies of the sign. -/
theorem sshiftRight_of_width_le (v : Word) {n : Nat} (h : 32 ≤ n) :
    v.sshiftRight n = if v.getLsbD 31 then 0xFFFFFFFF#32 else 0#32 := by
  have sign : v.msb = v.getLsbD 31 := BitVec.msb_eq_getLsbD_last v
  rw [← sign]
  cases hm : v.msb
  · rw [BitVec.sshiftRight_eq_of_msb_false hm, BitVec.ushiftRight_eq_zero h]; rfl
  · rw [BitVec.sshiftRight_eq_of_msb_true hm, BitVec.ushiftRight_eq_zero h]; rfl

theorem shiftLsl_of_pos (v : Word) {n : Nat} (c : Bool) (pos : 0 < n) :
    shiftLsl v n c = ⟨v <<< n, (v.setWidth 33 <<< n).getLsbD 32⟩ := by
  rw [lastShiftedOut_left v pos, shiftLsl, if_neg (by omega)]
  split
  · rw [if_pos (by omega)]
  · rw [BitVec.shiftLeft_eq_zero (by omega)]
    split
    · next h => subst h; rfl
    · rw [if_neg (by omega)]

theorem shiftLsr_of_pos (v : Word) {n : Nat} (c : Bool) (pos : 0 < n) :
    shiftLsr v n c = ⟨v >>> n, (v >>> (n - 1)).getLsbD 0⟩ := by
  rw [lastShiftedOut_logicalRight, shiftLsr, if_neg (by omega)]
  split
  · rfl
  · rw [BitVec.ushiftRight_eq_zero (by omega)]
    split
    · next h => subst h; rfl
    · rw [BitVec.getLsbD_of_ge v _ (by omega)]

theorem shiftAsr_of_pos (v : Word) {n : Nat} (c : Bool) (pos : 0 < n) :
    shiftAsr v n c = ⟨v.sshiftRight n, (v.sshiftRight (n - 1)).getLsbD 0⟩ := by
  rw [lastShiftedOut_arithmeticRight, shiftAsr, if_neg (by omega)]
  split
  · rfl
  · rw [sshiftRight_of_width_le v (by omega)]

/-! ### The rotates (R189, R190) -/

/-- A rotate of the 33 bits of carry and word by one place, bit by bit: the word's bit 0 comes in at the top. -/
theorem getLsbD_rotateRight_carry_append (v : Word) (c : Bool) (i : Nat) :
    ((bit1 c ++ v).rotateRight 1).getLsbD i =
      if i < 32 then (bit1 c ++ v).getLsbD (1 + i) else decide (i < 33) && v.getLsbD 0 := by
  rw [BitVec.getLsbD_rotateRight]
  split
  · next h => rw [decide_eq_true h]; rfl
  · next h =>
    rw [decide_eq_false h]
    obtain rfl | past : i = 32 ∨ 33 ≤ i := by omega
    · exact BitVec.getLsbD_append
    · simp [show ¬ i < 33 by omega]

/-- RRX moves the carry into bit 31 and every other bit one place down. -/
theorem shiftRrx_value (v : Word) (c : Bool) :
    (shiftRrx v c).value = ((bit1 c ++ v).rotateRight 1).setWidth 32 := by
  refine BitVec.eq_of_getLsbD_eq fun i hi => ?_
  rw [BitVec.getLsbD_setWidth, getLsbD_rotateRight_carry_append, if_pos hi, shiftRrx]
  simp only [BitVec.getLsbD_append, BitVec.getLsbD_extractLsb', hi]
  split
  · next h => simp [h, show 1 + i < 32 by omega]
  · next h => simp [show i = 31 by omega]

theorem shiftRrx_carry (v : Word) (c : Bool) :
    (shiftRrx v c).carry = ((bit1 c ++ v).rotateRight 1).getLsbD 32 := by
  rw [getLsbD_rotateRight_carry_append]
  rfl

/-- Settles O22: each shift by a positive amount has its law, and RRX its two parts of the 33-bit rotate. -/
theorem shifterShifts : Obligations.ShifterShifts := by
  intro v n c
  have wide : (if c then 1#1 else 0#1) = bit1 c := by cases c <;> rfl
  rw [wide]
  exact ⟨⟨rfl, rfl, rfl⟩, fun pos => ⟨shiftLsl_of_pos v c pos, shiftLsr_of_pos v c pos, shiftAsr_of_pos v c pos⟩,
    shiftRrx_value v c, shiftRrx_carry v c⟩

/-- The last bit that a rotate moves out at the bottom comes in at the top. -/
theorem getLsbD_31_rotateRight (v : Word) (n : Nat) :
    (v.rotateRight n).getLsbD 31 = if n % 32 = 0 then v.getLsbD 31 else v.getLsbD (n % 32 - 1) := by
  rw [BitVec.getLsbD_rotateRight]
  split
  · next h => rw [h]; rfl
  · rw [decide_eq_false (by omega), show 31 - (32 - n % 32) = n % 32 - 1 by omega]; rfl

/-- A rotate by a multiple of the width changes nothing. -/
theorem rotateRight_of_mod_eq_zero (v : Word) {n : Nat} (h : n % 32 = 0) : v.rotateRight n = v := by
  rw [BitVec.rotateRight_def, h]
  simp

theorem shiftRor_eq_rotateRight (v : Word) (n : Nat) (c : Bool) :
    shiftRor v n c = ⟨v.rotateRight n, if n = 0 then c else (v.rotateRight n).getLsbD 31⟩ := by
  rw [getLsbD_31_rotateRight, shiftRor]
  split
  · next h => rw [rotateRight_of_mod_eq_zero v (by omega)]
  · split
    · next h => rw [rotateRight_of_mod_eq_zero v h]
    · rw [BitVec.rotateRight_def]

/-! ### The forms of operand 2 (R191 to R193) -/

theorem eval_imm (s : State) (rot : BitVec 4) (imm8 : Byte) :
    (Operand2.imm rot imm8).eval s =
      ⟨rotatedImmediate rot imm8, if rot = 0#4 then s.c else (rotatedImmediate rot imm8).getLsbD 31⟩ := by
  rw [Operand2.eval, BitVec.msb_eq_getLsbD_last]

/-- An encoded amount that is not 0 is the actual amount (R192). -/
theorem eval_regImm_of_ne_zero (s : State) (rm : Reg) (ty : ShiftType) {n : BitVec 5} (h : n ≠ 0#5) :
    (Operand2.regImm rm ty n).eval s = shiftBy ty (s.reg rm) n.toNat s.c :=
  if_neg h

theorem toNat_lowByte (v : Word) : (v.extractLsb' 0 8).toNat = v.toNat % 256 := by
  rw [BitVec.extractLsb'_toNat, Nat.shiftRight_zero]

/-- Register 15 reads 4 more here, as the shifted register and as the amount's (R193, D19). -/
theorem eval_regReg (s : State) (rm : Reg) (ty : ShiftType) (rs : Reg) :
    (Operand2.regReg rm ty rs).eval s =
      shiftBy ty (if rm = 15#4 then s.pc + 4#32 else s.reg rm)
        ((if rs = 15#4 then s.pc + 4#32 else s.reg rs).toNat % 256) s.c := by
  rw [Operand2.eval, toNat_lowByte, readReg_eq_firstOperand, readReg_eq_firstOperand]
  rfl

/-- Settles O23: one law for each form of operand 2 (D19), and the rotate's law at every amount (D33). -/
theorem operandForms : Obligations.OperandForms := by
  intro s rot imm8 rm rs n
  exact ⟨eval_imm s rot imm8, ⟨rfl, rfl, rfl, rfl⟩,
    fun h => ⟨eval_regImm_of_ne_zero s rm .lsl h, eval_regImm_of_ne_zero s rm .lsr h, eval_regImm_of_ne_zero s rm .asr h,
      eval_regImm_of_ne_zero s rm .ror h⟩,
    ⟨eval_regReg s rm .lsl rs, eval_regReg s rm .lsr rs, eval_regReg s rm .asr rs, eval_regReg s rm .ror rs⟩,
    shiftRor_eq_rotateRight⟩

end Sys2Proof.Proofs
end

section
/-!
PROOF. Data processing of the 32-bit encoding (spec/42_arm_data_processing.md R211 to R230) short of its exception return:
the adder's flags against exact arithmetic, and what the three outcomes of the common operation leave. Last, the words of
the instruction rules' examples.
-/

namespace Sys2Proof.Proofs

open Sys2Proof.Machine Sys2Proof.Claims

/-! ### Subtraction with borrow (R221, R222) -/

/-- The carry of a subtraction with borrow is "no borrow". -/
theorem addWithCarry_borrow_carry_iff (a b : Word) (c : Bool) :
    (addWithCarry a (~~~b) c).carry = true ↔ (0 : Int) ≤ a.toNat - b.toNat - (1 - c.toNat) := by
  rw [addWithCarry_carry_iff, BitVec.toNat_not]
  have := b.isLt
  omega

theorem addWithCarry_borrow_overflow_iff (a b : Word) (c : Bool) :
    (addWithCarry a (~~~b) c).overflow = true ↔
      ¬ (-(2 ^ 31 : Int) ≤ a.toInt - b.toInt - (1 - c.toNat) ∧ a.toInt - b.toInt - (1 - c.toNat) < 2 ^ 31) := by
  have difference : a.toInt + (~~~b).toInt + (c.toNat : Int) = a.toInt - b.toInt - (1 - c.toNat) := by
    rw [toInt_complement]
    omega
  rw [addWithCarry_overflow_iff_not_fits, difference]

/-! ### The flags (R212) -/

theorem dpCompute_carry_iff {op : DpOp} (h : arithmetic op = true) (a b : Word) (c : Bool) :
    (dpCompute op a b c).carry = true ↔ CarryOut op a b c := by
  cases op with
  | and | eor | tst | teq | orr | mov | bic | mvn => nomatch h
  | add | cmn | adc =>
    refine (addWithCarry_carry_iff a b _).trans ?_
    simp only [CarryOut, exact, Bool.toNat_false]
    omega
  | sub | cmp => exact (addWithCarry_complement_carry_iff a b).trans (by simp [CarryOut, exact])
  | rsb => exact (addWithCarry_complement_carry_iff b a).trans (by simp [CarryOut, exact])
  | sbc => exact addWithCarry_borrow_carry_iff a b c
  | rsc => exact addWithCarry_borrow_carry_iff b a c

theorem dpCompute_overflow_iff {op : DpOp} (h : arithmetic op = true) (a b : Word) (c : Bool) :
    (dpCompute op a b c).overflow = true ↔ Overflow op a b c := by
  cases op with
  | and | eor | tst | teq | orr | mov | bic | mvn => nomatch h
  | add | cmn =>
    have sum := addWithCarry_overflow_iff_not_fits a b false
    rwa [Bool.toNat_false, Nat.cast_zero, add_zero] at sum
  | adc => exact addWithCarry_overflow_iff_not_fits a b c
  | sub | cmp => exact addWithCarry_complement_overflow_iff a b
  | rsb => exact addWithCarry_complement_overflow_iff b a
  | sbc => exact addWithCarry_borrow_overflow_iff a b c
  | rsc => exact addWithCarry_borrow_overflow_iff b a c

/-- `SetFlags` of a computation leaves the exact flags, V kept from before where the operation is logical. -/
theorem dpFlags_setFlags {s u : State} (hv : u.v = s.v) (op : DpOp) (a b : Word) (shifterCarry : Bool) :
    DpFlags op a b shifterCarry s (u.setFlags op (dpCompute op a b s.c) shifterCarry) := by
  rw [DpFlags, State.setFlags_eq, dpIsArithmetic_eq, ← dpCompute_value]
  refine ⟨BitVec.msb_eq_getLsbD_last (dpCompute op a b s.c).value, beq_iff_eq, ?_⟩
  cases h : arithmetic op with
  | true => exact ⟨dpCompute_carry_iff h a b s.c, dpCompute_overflow_iff h a b s.c⟩
  | false => exact ⟨rfl, hv⟩

/-! ### What setting the flags leaves alone -/

section
variable {s t : State} (op : DpOp) (r : AluResult) (shifterCarry : Bool)

theorem sameRegsBut_setFlags {P : Reg → Prop} (h : SameRegsBut s t P) :
    SameRegsBut s (t.setFlags op r shifterCarry) P :=
  fun q hq => (t.reg_setFlags op r shifterCarry q).trans (h q hq)

theorem sameRest_setFlags (h : SameRest s t) : SameRest s (t.setFlags op r shifterCarry) := by
  rw [State.setFlags_eq]; exact h

theorem sameMemory_setFlags (h : SameMemory s t) : SameMemory s (t.setFlags op r shifterCarry) := by
  rw [State.setFlags_eq]; exact h

theorem charged_setFlags {k : Nat} {nonSeq : Bool} (h : Charged s t k nonSeq) :
    Charged s (t.setFlags op r shifterCarry) k nonSeq := by
  rw [State.setFlags_eq]; exact h

end

/-! ### The common operation (R211, R213) -/

theorem compute_eq_dpCompute (form : Operand2) (op : DpOp) (rn : Reg) (s : State) :
    form.compute op rn s = dpCompute op (firstOperand form s rn) (form.eval s).value s.c := by
  rw [Operand2.compute, readReg_eq_firstOperand]

theorem dpFlags_compute (form : Operand2) (op : DpOp) (rn : Reg) {s u : State} (hv : u.v = s.v) :
    DpFlags op (firstOperand form s rn) (form.eval s).value (form.eval s).carry s
      (u.setFlags op (form.compute op rn s) (form.eval s).carry) := by
  rw [compute_eq_dpCompute]
  exact dpFlags_setFlags hv op _ _ _

/-- What a row of data processing answers when its condition passes: the fetch charge moves none of its operands. -/
theorem exec_dpRow_of_holds {i : Instr} {op : DpOp} {c : Cond} {set : Bool} {rn rd : Reg} {form : Operand2} {s : State}
    (row : DpRow i op c set rn rd form) (holds : Holds s c) :
    exec i s =
      if isTest op then .next ((s.fetchCost.shifted form).setFlags op (form.compute op rn s) (form.eval s).carry)
      else if rd = Reg.pc then
        if set then (s.fetchCost.shifted form).returnFromException (form.compute op rn s).value
        else .next ((s.fetchCost.shifted form).setPc (form.compute op rn s).value)
      else
        .next (if set then ((s.fetchCost.shifted form).setReg rd (form.compute op rn s).value).setFlags op
                (form.compute op rn s) (form.eval s).carry
              else (s.fetchCost.shifted form).setReg rd (form.compute op rn s).value) := by
  have compute : form.compute op rn s.fetchCost = form.compute op rn s := by
    rw [Operand2.compute, Operand2.readReg_fetchCost, Operand2.eval_fetchCost]; rfl
  rw [exec_dpRow s row, dataProcessing, prologue_of_holds holds, dataProcessingBody_eq, compute,
    Operand2.eval_fetchCost, dpIsTest_eq]

/-- Computing the operands charges the cycles of the instruction and changes nothing else. -/
theorem frame_shifted (s : State) (form : Operand2) :
    let u := s.fetchCost.shifted form
    SameFlags s u ∧ SameRest s u ∧ SameMemory s u ∧ Charged s u (shiftCycle form) false := by
  obtain ⟨flags, rest, memory⟩ :=
    frame_registers_timing s s.x (s.fetchCost.shifted form).cycles false s.condPassed
  exact ⟨flags, rest, memory, charged_shifted s form⟩

theorem frame_setReg_shifted (s : State) (form : Operand2) (rd : Reg) (v : Word) :
    let t := (s.fetchCost.shifted form).setReg rd v
    SameRegsBut s t (· = rd) ∧ SameFlags s t ∧ SameRest s t ∧ SameMemory s t ∧ Charged s t (shiftCycle form) false :=
  ⟨fun _ hq => State.reg_setReg_ne _ v hq, frame_shifted s form⟩

/-- Settles O36: a test sets the flags in the state its operands were computed in. -/
theorem testsSetFlagsOnly : Obligations.TestsSetFlagsOnly := by
  intro i op c set rn rd form s row test holds
  obtain ⟨-, rest, memory, charged⟩ := frame_shifted s form
  exact ⟨_, (exec_dpRow_of_holds row holds).trans (if_pos test), sameRegsBut_setFlags _ _ _ fun _ _ => rfl,
    dpFlags_compute form op rn rfl, sameRest_setFlags _ _ _ rest, sameMemory_setFlags _ _ _ memory,
    charged_setFlags _ _ _ charged⟩

/-- Settles O35: without S the write of Rd is all, with S the flags follow it. -/
theorem dataProcessingWrites : Obligations.DataProcessingWrites := by
  intro i op c set rn rd form s row notTest hrd holds
  obtain ⟨regs, flags, rest, memory, charged⟩ := frame_setReg_shifted s form rd (form.compute op rn s).value
  have written := (State.reg_setReg_same (s.fetchCost.shifted form) rd _).trans (compute_value form op rn s)
  have answer := exec_dpRow_of_holds row holds
  rw [notTest, if_neg Bool.false_ne_true, if_neg hrd] at answer
  refine ⟨_, answer, ?_⟩
  cases set with
  | false => exact ⟨written, regs, flags, rest, memory, charged⟩
  | true =>
    exact ⟨(State.reg_setFlags _ _ _ _ rd).trans written, sameRegsBut_setFlags _ _ _ regs,
      dpFlags_compute form op rn rfl, sameRest_setFlags _ _ _ rest, sameMemory_setFlags _ _ _ memory,
      charged_setFlags _ _ _ charged⟩

/-- Settles O37: without S the write of the PC is all. -/
theorem dataProcessingJumps : Obligations.DataProcessingJumps := by
  intro i op c rn form s row notTest holds
  have answer := exec_dpRow_of_holds row holds
  rw [notTest, if_neg Bool.false_ne_true, if_pos rfl, if_neg Bool.false_ne_true] at answer
  exact ⟨_, answer, (State.pc_setPc _ _).trans (compute_value form op rn s), frame_setReg_shifted s form Reg.pc _⟩

/-! ### The examples' words -/

/-- Settles O1: the decoder evaluates on each word. -/
theorem decodeSpecWords : Obligations.DecodeSpecWords :=
  ⟨rfl, rfl, rfl, rfl, rfl, rfl, rfl, rfl, rfl, rfl, rfl, rfl, rfl, rfl, rfl, rfl, rfl, rfl, rfl, rfl⟩

end Sys2Proof.Proofs
end

section
/-!
PROOF. Multiplication (spec/43_arm_multiply.md R250 to R258, spec/48_thumb_alu.md R363): the products of machine words
against exact integers, and what a multiply leaves. Every multiply charges the multiplier, writes its destinations, and
with S writes N and Z of its result; `withNZ` is that last write at either width.
-/

namespace Sys2Proof.Proofs

open Sys2Proof.Machine Sys2Proof.Claims

/-! ### Exact products -/

theorem mul_add_ofNat (a b : Word) (n : Nat) :
    a * b + BitVec.ofNat 32 n = BitVec.ofNat 32 (a.toNat * b.toNat + n) := by
  rw [BitVec.ofNat_add, BitVec.ofNat_mul, BitVec.ofNat_toNat, BitVec.ofNat_toNat, BitVec.setWidth_eq,
    BitVec.setWidth_eq]

theorem unsignedProduct_eq_ofInt (a b : Word) : unsignedProduct a b = BitVec.ofInt 64 (a.toNat * b.toNat) := by
  rw [BitVec.ofInt_mul, BitVec.ofInt_natCast, BitVec.ofInt_natCast, BitVec.ofNat_toNat, BitVec.ofNat_toNat,
    unsignedProduct]

theorem signedProduct_eq_ofInt (a b : Word) : signedProduct a b = BitVec.ofInt 64 (a.toInt * b.toInt) :=
  (BitVec.ofInt_mul _ _).symm

/-- The accumulator of a long multiply: RdHi above RdLo (R256, R258). -/
theorem append_eq_ofInt (hi lo : Word) : hi ++ lo = BitVec.ofInt 64 (hi.toNat * 2 ^ 32 + lo.toNat) := by
  apply BitVec.eq_of_toNat_eq
  have := hi.isLt
  have := lo.isLt
  rw [BitVec.toNat_append, BitVec.toNat_ofInt, ← Nat.shiftLeft_add_eq_or_of_lt lo.isLt, Nat.shiftLeft_eq]
  omega

/-! ### The flags (R251) -/

/-- With S, N and Z are those of a result of any width. -/
def withNZ {w : Nat} (u : State) (set : Bool) (result : BitVec w) : State :=
  if set then { u with n := result.msb, z := result == 0#w } else u

theorem reg_withNZ {w : Nat} (u : State) (set : Bool) (result : BitVec w) (q : Reg) :
    (withNZ u set result).reg q = u.reg q := by
  cases set <;> rfl

/-- The write of N and Z leaves C, V and everything outside the flags alone. -/
theorem frame_withNZ {w k : Nat} {s u : State} {nonSeq : Bool} (set : Bool) (result : BitVec w)
    (h : SameFlags s u ∧ SameRest s u ∧ SameMemory s u ∧ Charged s u k nonSeq) :
    let t := withNZ u set result
    (if set then t.n = result.getLsbD (w - 1) ∧ (t.z = true ↔ result = 0#w) ∧ t.c = s.c ∧ t.v = s.v
      else SameFlags s t) ∧
      SameRest s t ∧ SameMemory s t ∧ Charged s t k nonSeq := by
  obtain ⟨⟨hn, hz, hc, hv⟩, rest, memory, charged⟩ := h
  cases set with
  | false => exact ⟨⟨hn, hz, hc, hv⟩, rest, memory, charged⟩
  | true => exact ⟨⟨BitVec.msb_eq_getLsbD_last result, beq_iff_eq, hc, hv⟩, rest, memory, charged⟩

/-- Charging the multiplier and writing registers changes nothing else. -/
theorem frame_multiplier (s : State) (x : Vector Word 16) (k : Nat) :
    let u := { s.fetchCost.internalCycles k with x := x }
    SameFlags s u ∧ SameRest s u ∧ SameMemory s u ∧ Charged s u k false := by
  obtain ⟨flags, rest, memory⟩ :=
    frame_registers_timing s x (s.fetchCost.internalCycles k).cycles false s.condPassed
  exact ⟨flags, rest, memory, charged_internalCycles s k⟩

/-! ### The 32-bit multiplies (R253, R254, R363) -/

/-- The state a 32-bit multiply leaves. -/
def multiplied (s : State) (k : Nat) (set : Bool) (rd : Reg) (result : Word) : State :=
  withNZ ((s.internalCycles k).setReg rd result) set result

theorem multiply_of_holds {acc : Bool} {f : MulForm} {s : State} (holds : Holds s f.cond) :
    multiply acc f s =
      .next (multiplied s.fetchCost (multiplierCyclesSigned (s.reg f.rs) + if acc then 1 else 0) f.s f.rd
        (s.reg f.rm * s.reg f.rs + if acc then s.reg f.rn else 0#32)) := by
  rw [multiply, prologue_of_holds holds]
  cases acc with
  | false => simp only [Bool.false_eq_true, if_false, BitVec.add_zero]; rfl
  | true => rfl

/-- What a row of the 32-bit multiplies answers when its condition passes, over the operands before the instruction. -/
theorem exec_mulRow_of_holds {i : Instr} {c : Option Cond} {set : Bool} {rd rm rs : Reg} {acc : State → Nat} {k : Nat}
    {s : State} (row : MulRow i c set rd rm rs acc k) (holds : HoldsOpt s c) :
    exec i s =
      .next (multiplied s.fetchCost (multiplierCyclesSigned (s.reg rs) + k) set rd
        (BitVec.ofNat 32 ((s.reg rm).toNat * (s.reg rs).toNat + acc s))) := by
  cases row with
  | mul f =>
    rw [← mul_add_ofNat]
    exact multiply_of_holds holds
  | mla f =>
    rw [← mul_add_ofNat, BitVec.ofNat_toNat, BitVec.setWidth_eq]
    exact multiply_of_holds holds
  | tMul f =>
    rw [← mul_add_ofNat, BitVec.add_zero, BitVec.mul_comm]
    rfl

/-- Settles O39: the one write of Rd, then the flags of the result. -/
theorem multiplies : Obligations.Multiplies := by
  intro i c set rd rm rs acc k s row holds v
  refine ⟨_, exec_mulRow_of_holds row holds, ?_, fun q hq => ?_, frame_withNZ set v (frame_multiplier s _ _)⟩
  · exact (reg_withNZ _ set v rd).trans (State.reg_setReg_same _ rd v)
  · exact (reg_withNZ _ set v q).trans (State.reg_setReg_ne _ v hq)

/-! ### The long multiplies (R255 to R258) -/

/-- The state a long multiply leaves: `RdLo` is written before `RdHi` (R250). -/
def multipliedLong (s : State) (k : Nat) (f : MulLong) (result : BitVec 64) : State :=
  withNZ (((s.internalCycles k).setReg f.rdLo (result.extractLsb' 0 32)).setReg f.rdHi (result.extractLsb' 32 32))
    f.s result

theorem multiplyLong_of_holds {product : Word → Word → BitVec 64} {cycles : Word → Nat} {acc : Bool} {f : MulLong}
    {s : State} (holds : Holds s f.cond) :
    multiplyLong product cycles acc f s =
      .next (multipliedLong s.fetchCost (if acc then cycles (s.reg f.rs) + 2 else cycles (s.reg f.rs) + 1) f
        (if acc then product (s.reg f.rm) (s.reg f.rs) + (s.reg f.rdHi ++ s.reg f.rdLo)
          else product (s.reg f.rm) (s.reg f.rs))) := by
  rw [multiplyLong, prologue_of_holds holds]
  rfl

/-- What a row of the long multiplies answers when its condition passes, over the operands before the instruction. -/
theorem exec_mulLongRow_of_holds {i : Instr} {f : MulLong} {value : State → Int} {k : State → Nat} {s : State}
    (row : MulLongRow i f value k) (holds : Holds s f.cond) :
    exec i s = .next (multipliedLong s.fetchCost (k s) f (BitVec.ofInt 64 (value s))) := by
  cases row with
  | umull =>
    rw [← unsignedProduct_eq_ofInt]
    exact multiplyLong_of_holds holds
  | umlal =>
    rw [BitVec.ofInt_add, ← unsignedProduct_eq_ofInt, ← append_eq_ofInt]
    exact multiplyLong_of_holds holds
  | smull =>
    rw [← signedProduct_eq_ofInt]
    exact multiplyLong_of_holds holds
  | smlal =>
    rw [BitVec.ofInt_add, ← signedProduct_eq_ofInt, ← append_eq_ofInt]
    exact multiplyLong_of_holds holds

/-- The registers after a long multiply: `RdHi` wins where both destinations are one register (R250). -/
theorem reg_multipliedLong (s : State) (k : Nat) (f : MulLong) (result : BitVec 64) (q : Reg) :
    (multipliedLong s k f result).reg q =
      if q = f.rdHi then result.extractLsb' 32 32
      else if q = f.rdLo then result.extractLsb' 0 32 else s.reg q := by
  rw [multipliedLong, reg_withNZ, State.reg_setReg, State.reg_setReg, State.reg_internalCycles]

/-- Settles O40: the two writes, the upper half last, then the flags of the 64 bits. -/
theorem longMultiplies : Obligations.LongMultiplies := by
  intro i f value k s row holds p
  refine ⟨_, exec_mulLongRow_of_holds row holds, ?_, fun differ => ?_, fun q hq => ?_,
    frame_withNZ f.s p (frame_multiplier s _ (k s))⟩
  · rw [reg_multipliedLong, if_pos rfl]
  · rw [reg_multipliedLong, if_neg differ, if_pos rfl]
  · obtain ⟨notHi, notLo⟩ := not_or.1 hq
    rw [reg_multipliedLong, if_neg notHi, if_neg notLo, State.reg_fetchCost]

end Sys2Proof.Proofs
end

section
/-!
PROOF. The branches (spec/44_arm_branch.md R265 to R268, spec/49_thumb_memory_branch.md R374, R422, R426, R431, R432): the
shifted offset fields as byte offsets, and what a branch leaves. Every branch charges its fetch and writes the PC; with
link it writes R14 too (`linked`), and the exchange writes T.
-/

namespace Sys2Proof.Proofs

open Sys2Proof.Machine Sys2Proof.Claims

/-! ### Byte offsets (R118, R135, R137) -/

theorem ofInt_two_pow (w k : Nat) : BitVec.ofInt w (2 ^ k) = BitVec.twoPow w k := by
  apply BitVec.eq_of_toNat_eq
  rw [BitVec.toNat_twoPow, ← BitVec.toNat_ofNat, ← BitVec.ofInt_natCast, Nat.cast_pow, Nat.cast_ofNat]

/-- A sign-extended field shifted by `k` is its signed value times `2 ^ k`, wrapped to a word. -/
theorem signExtend_shiftLeft_eq_ofInt {w : Nat} (field : BitVec w) (k : Nat) :
    field.signExtend 32 <<< k = BitVec.ofInt 32 (2 ^ k * field.toInt) := by
  rw [BitVec.shiftLeft_eq_mul_twoPow, BitVec.mul_comm, BitVec.ofInt_mul, ofInt_two_pow, BitVec.signExtend]

theorem branchOffset24_eq_ofInt (imm24 : BitVec 24) : branchOffset24 imm24 = BitVec.ofInt 32 (4 * imm24.toInt) :=
  signExtend_shiftLeft_eq_ofInt imm24 2

theorem branchOffset8_eq_ofInt (soffset8 : BitVec 8) : branchOffset8 soffset8 = BitVec.ofInt 32 (2 * soffset8.toInt) :=
  signExtend_shiftLeft_eq_ofInt soffset8 1

theorem branchOffset11_eq_ofInt (offset11 : BitVec 11) :
    branchOffset11 offset11 = BitVec.ofInt 32 (2 * offset11.toInt) :=
  signExtend_shiftLeft_eq_ofInt offset11 1

/-- The offset of the second half of the 16-bit BL (R432), which is unsigned. -/
theorem setWidth_shiftLeft_one_eq_ofNat (offset11 : BitVec 11) :
    offset11.setWidth 32 <<< 1 = BitVec.ofNat 32 (2 * offset11.toNat) := by
  apply BitVec.eq_of_toNat_eq
  have := offset11.isLt
  rw [BitVec.toNat_shiftLeft, BitVec.toNat_setWidth, BitVec.toNat_ofNat, Nat.shiftLeft_eq]
  omega

/-! ### What a branch leaves unchanged -/

/-- Charging the fetch and writing registers changes nothing else: `frame_multiplier` without an internal cycle. -/
theorem frame_fetched (s : State) (x : Vector Word 16) :
    let u := { s.fetchCost with x := x }
    SameFlags s u ∧ SameRest s u ∧ SameMemory s u ∧ Charged s u 0 false :=
  frame_multiplier s x 0

/-! ### Branches without link (R266, R422, R426) -/

/-- A passed condition runs the branch after the fetch charge, which moves no register. -/
theorem prologue_branch_of_holds {s : State} {c : Cond} (holds : HoldsOpt s (some c)) (offset : Word) :
    s.prologue c (fun u => .next (u.setPc (u.pc + offset))) = .next (s.fetchCost.setPc (s.pc + offset)) :=
  prologue_of_holds holds _

/-- What a row of the branches answers when its condition passes. -/
theorem exec_branchRow_of_holds {i : Instr} {c : Option Cond} {o : Int} {s : State} (row : BranchRow i c o)
    (holds : HoldsOpt s c) : exec i s = .next (s.fetchCost.setPc (s.pc + BitVec.ofInt 32 o)) := by
  cases row with
  | b f =>
    rw [← branchOffset24_eq_ofInt]
    exact prologue_branch_of_holds holds _
  | tb o =>
    rw [← branchOffset11_eq_ofInt]
    rfl
  | eq o | ne o | cs o | cc o | mi o | pl o | vs o | vc o | hi o | ls o | ge o | lt o | gt o | le o =>
    rw [← branchOffset8_eq_ofInt]
    exact prologue_branch_of_holds holds _

/-! ### Branch and exchange (R268, R374) -/

/-- What a row of BX answers when its condition passes. -/
theorem exec_exchangeRow_of_holds {i : Instr} {c : Option Cond} {rm : Reg} {s : State} (row : ExchangeRow i c rm)
    (holds : HoldsOpt s c) : exec i s = .next (s.fetchCost.branchExchange (s.reg rm)) := by
  cases row with
  | bx f => exact prologue_of_holds holds fun u => .next (u.branchExchange (u.reg f.rm))
  | tBx f => rfl

/-- Settles O42: one write of the PC after the fetch charge; the exchange differs from it in T alone. -/
theorem branches : Obligations.Branches := by
  refine ⟨fun i c o s row holds => ?_, fun i c rm s row holds => ?_⟩
  · exact ⟨_, exec_branchRow_of_holds row holds, State.pc_setPc _ _, fun q hq => State.reg_setPc_ne _ _ hq,
      frame_fetched s _⟩
  · obtain ⟨flags, ⟨⟨irqOff, fiqOff, -, mode⟩, banks, log⟩, memory, charged⟩ :=
      frame_fetched s (s.fetchCost.setPc (s.reg rm)).x
    exact ⟨_, exec_exchangeRow_of_holds row holds, State.pc_setPc _ _, rfl, fun q hq => State.reg_setPc_ne _ _ hq,
      flags, irqOff, fiqOff, mode, banks, log, memory, charged⟩

/-! ### Branches with link (R267, R431, R432) -/

/-- The state a branch with link leaves. -/
def linked (s : State) (link target : Word) : State := (s.fetchCost.setReg Reg.lr link).setPc target

/-- R14 and the PC are two registers, so their writes commute: R432 writes the PC first. -/
theorem setReg_lr_setPc (s : State) (link target : Word) :
    (s.fetchCost.setPc target).setReg Reg.lr link = linked s link target := by
  simp only [linked, State.setPc, State.setReg]
  rw [Vector.set_comm]
  decide

theorem frame_linked (s : State) (link target : Word) :
    let t := linked s link target
    SameRegsBut s t (fun r => r = Reg.lr ∨ r = Reg.pc) ∧ SameFlags s t ∧ SameRest s t ∧ SameMemory s t ∧
      Charged s t 0 false := by
  refine ⟨fun q hq => ?_, frame_fetched s _⟩
  obtain ⟨notLr, notPc⟩ := not_or.1 hq
  exact (State.reg_setPc_ne _ _ notPc).trans (State.reg_setReg_ne _ _ notLr)

theorem reg_lr_linked (s : State) (link target : Word) : (linked s link target).reg Reg.lr = link :=
  (State.reg_setPc_ne _ _ (by decide)).trans (State.reg_setReg_same _ _ _)

theorem pc_linked (s : State) (link target : Word) : (linked s link target).pc = target := State.pc_setPc _ _

theorem exec_bl_of_holds {f : BranchForm} {s : State} (holds : Holds s f.cond) :
    exec (.bl f) s = .next (linked s (s.pc - 4#32) (s.pc + BitVec.ofInt 32 (4 * f.imm24.toInt))) := by
  rw [← branchOffset24_eq_ofInt]
  unfold exec execBl
  exact prologue_of_holds holds _

theorem exec_tBlHi (offset11 : BitVec 11) (s : State) :
    exec (.tBlHi offset11) s =
      .next (s.fetchCost.setReg Reg.lr (s.pc + BitVec.ofInt 32 (4096 * offset11.toInt))) := by
  have offset : offset11.signExtend 32 <<< 12 = BitVec.ofInt 32 (4096 * offset11.toInt) :=
    signExtend_shiftLeft_eq_ofInt offset11 12
  rw [← offset]
  rfl

theorem exec_tBlLo (offset11 : BitVec 11) (s : State) :
    exec (.tBlLo offset11) s =
      .next (linked s ((s.pc - 2#32) ||| 1#32) (s.reg Reg.lr + BitVec.ofNat 32 (2 * offset11.toNat))) := by
  rw [← setReg_lr_setPc, ← setWidth_shiftLeft_one_eq_ofNat]
  rfl

/-- Settles O43: BL and the second half leave a `linked` state, the first half writes R14 alone. -/
theorem linkBranches : Obligations.LinkBranches := by
  refine fun s => ⟨fun f holds => ?_, fun o => ?_, fun o => ?_⟩
  · exact ⟨_, exec_bl_of_holds holds, reg_lr_linked s _ _, pc_linked s _ _, frame_linked s _ _⟩
  · exact ⟨_, exec_tBlHi o s, State.reg_setReg_same _ _ _, fun q hq => State.reg_setReg_ne _ _ hq,
      frame_fetched s _⟩
  · exact ⟨_, exec_tBlLo o s, pc_linked s _ _, reg_lr_linked s _ _, frame_linked s _ _⟩

end Sys2Proof.Proofs
end

section
/-!
PROOF. The single transfers and the swaps of the 32-bit encoding (spec/45_arm_single_transfer.md R276 to R294): the
address of each row, and what a load, a store and a swap leave. A load differs from the state before it in registers
and timing; a store and a swap differ from one `memWrite` in registers and timing.
-/

namespace Sys2Proof.Proofs

open Sys2Proof.Machine Sys2Proof.Claims

/-! ### Addresses (R276, R284) -/

/-- The address of a transfer, as the model's operations take it. -/
def addressOf (x : Transfer) (s : State) : TransferAddress := ⟨x.addr s, x.offaddr s, !x.p || x.w⟩

theorem addressOf_eq_transferAddress (x : Transfer) (s : State) :
    addressOf x s = transferAddress x.p x.u x.w (s.reg x.rn) (x.offset.value s) := rfl

theorem wback_addressOf_iff (x : Transfer) (s : State) : (addressOf x s).wback = true ↔ x.Wback := by
  rw [addressOf, Transfer.Wback, Bool.or_eq_true, Bool.not_eq_true']

/-- The halfword transfers' immediate offset (R284). -/
theorem halfwordOffset_eq_ofNat (offHi offLo : BitVec 4) :
    (offHi ++ offLo).setWidth 32 = BitVec.ofNat 32 (16 * offHi.toNat + offLo.toNat) := by
  apply BitVec.eq_of_toNat_eq
  have := offHi.isLt
  have := offLo.isLt
  rw [BitVec.toNat_setWidth, BitVec.toNat_append, BitVec.toNat_ofNat, ← Nat.shiftLeft_add_eq_or_of_lt offLo.isLt,
    Nat.shiftLeft_eq, Nat.mul_comm]

theorem addressHdtImm_eq_addressOf (f : HdtImm) (s : State) : addressHdtImm f s = addressOf (hdtImm f) s := by
  rw [addressHdtImm, halfwordOffset_eq_ofNat, addressOf_eq_transferAddress]
  rfl

/-- Register 15 is stored as the address of the instruction plus 12 (R278; log 15). -/
theorem storedReg_eq_storeValue (s : State) (r : Reg) : s.storedReg r = storeValue s r := rfl

/-! ### Charges (R503) -/

theorem cycles_fetchCost_dataCost (s : State) (w : Width) (a : Word) :
    (s.fetchCost.dataCost w false a).cycles = s.cycles + fetchCharge s + dataCharge w a := by
  rw [dataCost_cycles, fetchCost_cycles]

/-! ### Loads (R277, R280) -/

theorem memRead_fetchCost (s : State) (k : LoadKind) (a : Word) : s.fetchCost.memRead k a = s.memRead k a := rfl

/-- A load changes registers and timing alone. -/
theorem frame_loadSingle (s : State) (k : LoadKind) (a : TransferAddress) (rn rd : Reg) :
    let t := s.fetchCost.loadSingle k a rn rd
    SameFlags s t ∧ SameRest s t ∧ SameMemory s t ∧ Charged s t (dataCharge k.width a.addr + 1) true := by
  rw [State.loadSingle_eq, cycles_fetchCost_dataCost, Nat.add_assoc]
  obtain ⟨flags, rest, memory⟩ := frame_registers_timing s (s.fetchCost.loadSingle k a rn rd).x
    (s.cycles + fetchCharge s + (dataCharge k.width a.addr + 1)) true s.condPassed
  exact ⟨flags, rest, memory, rfl, rfl, rfl⟩

/-- A passed condition runs the load after the fetch charge. -/
theorem prologue_load_of_holds {s : State} {c : Cond} (holds : Holds s c) (k : LoadKind)
    (address : State → TransferAddress) (rn rd : Reg) :
    s.prologue c (fun u => .next (u.loadSingle k (address u) rn rd)) =
      .next (s.fetchCost.loadSingle k (address s.fetchCost) rn rd) :=
  prologue_of_holds holds _

/-- What a row of the single loads answers when its condition passes. -/
theorem exec_loadRow_of_holds {i : Instr} {k : LoadKind} {x : Transfer} {s : State} (row : LoadRow i k x)
    (holds : Holds s x.cond) : exec i s = .next (s.fetchCost.loadSingle k (addressOf x s) x.rn x.rd) := by
  cases row with
  | ldrhImm f | ldrsbImm f | ldrshImm f =>
    rw [← addressHdtImm_eq_addressOf]
    exact prologue_load_of_holds holds _ _ _ _
  | ldrImmPre f | ldrImmPost f | ldrtImm f | ldrRegPre f | ldrRegPost f | ldrtReg f | ldrbImmPre f | ldrbImmPost f
  | ldrbtImm f | ldrbRegPre f | ldrbRegPost f | ldrbtReg f | ldrhReg f | ldrsbReg f | ldrshReg f =>
    exact prologue_load_of_holds holds _ _ _ _

/-- Settles O44: the loaded value is written after the base, so it wins where they are one register (R277). -/
theorem singleLoads : Obligations.SingleLoads := by
  intro i k x s row holds
  have written := wback_addressOf_iff x s
  refine ⟨_, exec_loadRow_of_holds row holds, ?_, fun wback differ => ?_, fun q hq => ?_, frame_loadSingle s k _ _ _⟩
  · rw [State.reg_loadSingle, if_pos rfl, memRead_fetchCost]
    rfl
  · rw [State.reg_loadSingle, if_neg differ, if_pos ⟨written.2 wback, rfl⟩]
    rfl
  · obtain ⟨notRd, notBase⟩ := not_or.1 hq
    rw [State.reg_loadSingle, if_neg notRd, if_neg fun ⟨wback, base⟩ => notBase ⟨written.1 wback, base⟩,
      State.reg_fetchCost]

/-! ### Stores (R277, R281) -/

/-- One store, whatever is charged before and after it and whatever registers are written after it. -/
theorem frame_memWrite (s : State) (before after : Nat) (nonSeqBefore nonSeqAfter : Bool) (w : Width) (a v : Word)
    (x : Vector Word 16) :
    let u := { s with cycles := before, fetchNonSeq := nonSeqBefore }
    let t := { u.memWrite w a v with x := x, cycles := after, fetchNonSeq := nonSeqAfter }
    Stores s t (StoredByte w a v) ∧ SameFlags s t ∧ SameRest s t ∧ t.condPassed = s.condPassed := by
  intro u t
  have only : u.OnlyMemory (u.memWrite w a v) := u.onlyMemory_memWrite w a v
  exact ⟨storeWritesItsBytes u w a v, only.flags, ⟨only.control, only.banks, only.log⟩, only.timing.2.2⟩

theorem frame_storeSingle (s : State) (w : Width) (a : TransferAddress) (rn : Reg) (v : Word) :
    let t := s.fetchCost.storeSingle w a rn v
    Stores s t (StoredByte w a.addr v) ∧ SameFlags s t ∧ SameRest s t ∧ Charged s t (dataCharge w a.addr) true := by
  rw [State.storeSingle_eq, cycles_fetchCost_dataCost]
  obtain ⟨stores, flags, rest, passed⟩ := frame_memWrite s s.fetchCost.cycles
    (s.cycles + fetchCharge s + dataCharge w a.addr) false true w a.addr v (s.fetchCost.storeSingle w a rn v).x
  exact ⟨stores, flags, rest, rfl, rfl, passed⟩

/-- A passed condition runs the store after the fetch charge. -/
theorem prologue_store_of_holds {s : State} {c : Cond} (holds : Holds s c) (w : Width)
    (address : State → TransferAddress) (rn rd : Reg) :
    s.prologue c (fun u => .next (u.storeSingle w (address u) rn (u.storedReg rd))) =
      .next (s.fetchCost.storeSingle w (address s.fetchCost) rn (storeValue s rd)) := by
  rw [← storedReg_eq_storeValue]
  exact prologue_of_holds holds _

/-- What a row of the single stores answers when its condition passes. -/
theorem exec_storeRow_of_holds {i : Instr} {w : Width} {x : Transfer} {s : State} (row : StoreRow i w x)
    (holds : Holds s x.cond) :
    exec i s = .next (s.fetchCost.storeSingle w (addressOf x s) x.rn (storeValue s x.rd)) := by
  cases row with
  | strhImm f =>
    rw [← addressHdtImm_eq_addressOf]
    exact prologue_store_of_holds holds _ _ _ _
  | strImmPre f | strImmPost f | strtImm f | strRegPre f | strRegPost f | strtReg f | strbImmPre f | strbImmPost f
  | strbtImm f | strbRegPre f | strbRegPost f | strbtReg f | strhReg f =>
    exact prologue_store_of_holds holds _ _ _ _

/-- Settles O45: one store of the old register value, then the write-back. -/
theorem singleStores : Obligations.SingleStores := by
  intro i w x s row holds
  have written := wback_addressOf_iff x s
  obtain ⟨stores, unchanged⟩ := frame_storeSingle s w (addressOf x s) x.rn (storeValue s x.rd)
  refine ⟨_, exec_storeRow_of_holds row holds, stores, fun wback => ?_, fun q hq => ?_, unchanged⟩
  · rw [State.reg_storeSingle, if_pos ⟨written.2 wback, rfl⟩]
    rfl
  · rw [State.reg_storeSingle, if_neg fun ⟨wback, base⟩ => hq ⟨written.1 wback, base⟩, State.reg_fetchCost]

/-! ### Swaps (R293, R294) -/

/-- A swap changes registers, memory, the cache and timing alone: it charges two data transactions and one internal
cycle. -/
theorem swap_eq (s : State) (k : LoadKind) (w : Width) (f : SwpForm) :
    s.swap k w f =
      { (s.dataCost w false (s.reg f.rn)).memWrite w (s.reg f.rn) (s.storedReg f.rm) with
          x := (s.swap k w f).x
          cycles := s.cycles + (2 * dataCharge w (s.reg f.rn) + 1), fetchNonSeq := true } := by
  have only := (s.dataCost w false (s.reg f.rn)).onlyMemory_memWrite w (s.reg f.rn) (s.storedReg f.rm)
  have cycles : (s.swap k w f).cycles = s.cycles + (2 * dataCharge w (s.reg f.rn) + 1) := by
    rw [State.swap, State.internalCycle_cycles, State.setReg_cycles, dataCost_cycles, only.timing.1, dataCost_cycles]
    omega
  rw [← cycles]
  rfl

theorem frame_swap (s : State) (k : LoadKind) (w : Width) (f : SwpForm) :
    let t := s.fetchCost.swap k w f
    Stores s t (StoredByte w (s.reg f.rn) (storeValue s f.rm)) ∧ SameRegsBut s t (· = f.rd) ∧ SameFlags s t ∧
      SameRest s t ∧ Charged s t (2 * dataCharge w (s.reg f.rn) + 1) true := by
  have regs : SameRegsBut s (s.fetchCost.swap k w f) (· = f.rd) := fun q hq => by
    rw [State.reg_swap, if_neg hq, State.reg_fetchCost]
  rw [swap_eq] at regs ⊢
  obtain ⟨stores, flags, rest, passed⟩ := frame_memWrite s (s.fetchCost.dataCost w false (s.reg f.rn)).cycles
    (s.fetchCost.cycles + (2 * dataCharge w (s.reg f.rn) + 1)) true true w (s.reg f.rn) (storeValue s f.rm)
    (s.fetchCost.swap k w f).x
  exact ⟨stores, regs, flags, rest, by rw [← fetchCost_cycles]; rfl, rfl, passed⟩

theorem reg_rd_swap (s : State) (k : LoadKind) (w : Width) (f : SwpForm) :
    (s.fetchCost.swap k w f).reg f.rd = s.memRead k (s.reg f.rn) := by
  rw [State.reg_swap, if_pos rfl, memRead_fetchCost, State.reg_fetchCost]

/-- Settles O46: the two rows are one swap at the two widths. -/
theorem swaps : Obligations.Swaps := by
  refine fun f s holds => ⟨?_, ?_⟩
  · exact ⟨_, prologue_of_holds holds fun u => .next (u.swap .word .word f), reg_rd_swap s .word .word f,
      frame_swap s .word .word f⟩
  · exact ⟨_, prologue_of_holds holds fun u => .next (u.swap .byte .byte f), reg_rd_swap s .byte .byte f,
      frame_swap s .byte .byte f⟩

end Sys2Proof.Proofs
end

section
/-!
PROOF. The block transfers of the 32-bit encoding (spec/46_arm_block_transfer.md R300 to R308) short of LDM's exception return:
the live load, the load of the User registers, and the block store, whose words lie in different granules.
-/

namespace Sys2Proof.Proofs

open Sys2Proof.Machine Sys2Proof.Claims

/-! ### LDM without S (R303) -/

theorem exists_inList_of_ne_zero {l : BitVec 16} (h : l ≠ 0#16) : ∃ r, InList l r := by
  by_contra none
  refine h (BitVec.eq_of_getLsbD_eq fun k hk => ?_)
  have unlisted : ¬ InList l (BitVec.ofNat 4 k) := fun listed => none ⟨_, listed⟩
  have number : (BitVec.ofNat 4 k).toNat = k := Nat.mod_eq_of_lt hk
  rw [InList, number] at unlisted
  rw [Bool.eq_false_of_not_eq_true unlisted, BitVec.getLsbD_zero]

/-- The state LDM without S answers: the loaded state, with the PC written where it is listed, and one more cycle. -/
def liveLoaded (f : BdtForm) (s : State) : State :=
  (if f.rlist.getLsbD 15 then (blockLoaded f s).setPc (blockPc f s) else blockLoaded f s).internalCycle

section
variable {f : BdtForm} {s : State}

theorem liveLoaded_of_pc_listed (h : InList f.rlist Reg.pc) :
    liveLoaded f s = ((blockLoaded f s).setPc (blockPc f s)).internalCycle :=
  congrArg State.internalCycle (if_pos h)

theorem liveLoaded_of_pc_unlisted (h : ¬ InList f.rlist Reg.pc) : liveLoaded f s = (blockLoaded f s).internalCycle :=
  congrArg State.internalCycle (if_neg h)

/-- A register other than the PC is the loaded state's. -/
theorem reg_liveLoaded_of_ne_pc {r : Reg} (hr : r ≠ Reg.pc) : (liveLoaded f s).reg r = (blockLoaded f s).reg r := by
  by_cases h : InList f.rlist Reg.pc
  · rw [liveLoaded_of_pc_listed h, State.reg_internalCycle, State.reg_setPc_ne _ _ hr]
  · rw [liveLoaded_of_pc_unlisted h, State.reg_internalCycle]

theorem reg_liveLoaded_listed {r : Reg} (h : InList f.rlist r) :
    (liveLoaded f s).reg r = s.wordAt (slot (startAddress f.p f.u (s.reg f.rn) (listSize f.rlist)) f.rlist r) := by
  by_cases hr : r = Reg.pc
  · subst hr
    rw [liveLoaded_of_pc_listed h, State.reg_internalCycle, State.reg_setPc_pc]
    rfl
  · rw [reg_liveLoaded_of_ne_pc hr, reg_blockLoaded_listed f s h hr]

theorem reg_liveLoaded_unlisted {r : Reg} (h : ¬ InList f.rlist r) :
    (liveLoaded f s).reg r =
      if f.w = true ∧ r = f.rn then newBase f.u (s.reg f.rn) (listSize f.rlist) else s.reg r := by
  rw [← reg_blockLoaded_unlisted f s h]
  by_cases hr : r = Reg.pc
  · subst hr
    rw [liveLoaded_of_pc_unlisted h, State.reg_internalCycle]
  · exact reg_liveLoaded_of_ne_pc hr

/-- LDM without S changes live registers and timing alone. -/
theorem liveLoaded_eq :
    liveLoaded f s =
      { s with x := (liveLoaded f s).x, cycles := (blockLoaded f s).cycles + 1
               fetchNonSeq := (blockLoaded f s).fetchNonSeq } := by
  unfold liveLoaded
  rw [blockLoaded_eq]
  split <;> rfl

theorem frame_liveLoaded (notEmpty : f.rlist ≠ 0#16) :
    let t := liveLoaded f s.fetchCost
    SameFlags s t ∧ SameRest s t ∧ SameMemory s t ∧
      Charged s t (blockCharge (startAddress f.p f.u (s.reg f.rn) (listSize f.rlist)) (listSize f.rlist) + 1) true := by
  obtain ⟨r, listed⟩ := exists_inList_of_ne_zero notEmpty
  obtain ⟨cycles, seq⟩ := blockLoaded_timing f s.fetchCost listed
  rw [liveLoaded_eq, cycles, seq, fetchCost_cycles, Nat.add_assoc]
  obtain ⟨flags, rest, memory⟩ := frame_registers_timing s (liveLoaded f s.fetchCost).x
    (s.cycles + fetchCharge s +
      (blockCharge (startAddress f.p f.u (s.reg f.rn) (listSize f.rlist)) (listSize f.rlist) + 1)) true s.condPassed
  exact ⟨flags, rest, memory, rfl, rfl, rfl⟩

theorem loadMultiple_live (notEmpty : f.rlist ≠ 0#16) (hs : f.s = false) :
    loadMultiple f s = .next (liveLoaded f s) := by
  simp only [loadMultiple, if_neg notEmpty, hs, Bool.false_and, Bool.false_eq_true, if_false]
  by_cases h15 : InList f.rlist Reg.pc
  · obtain ⟨before, after, e, hbefore, -⟩ :=
      blockData_split s f.rlist Reg.pc h15 (blockStart f.p f.u (s.reg f.rn) f.rlist)
    rw [liveLoaded_of_pc_listed h15, blockPc, ← blockStart_eq, ← loadedPc_eq e hbefore]
    exact if_pos h15
  · rw [liveLoaded_of_pc_unlisted h15]
    exact if_neg h15

end

/-- Settles O47: the registers of `blockLoaded` and, where it is listed, the PC. -/
theorem loadMultiple : Obligations.LoadMultiple := by
  intro f s holds notEmpty hs n start
  refine ⟨liveLoaded f s.fetchCost, (prologue_of_holds holds _).trans (loadMultiple_live notEmpty hs),
    fun r listed => reg_liveLoaded_listed listed, fun hw unlisted => ?_, fun r untouched => ?_, frame_liveLoaded notEmpty⟩
  · exact (reg_liveLoaded_unlisted unlisted).trans (if_pos ⟨hw, rfl⟩)
  · obtain ⟨unlisted, notBase⟩ := not_or.1 untouched
    exact (reg_liveLoaded_unlisted unlisted).trans (if_neg notBase)

end Sys2Proof.Proofs
end

section
/-!
PROOF. The User bank (spec/46_arm_block_transfer.md R308): `UserReg` against the registers as every mode sees them, and LDM
with S and without register 15, which writes the base live and then loads the User registers.
-/

namespace Sys2Proof.Proofs

open Sys2Proof.Machine Sys2Proof.Claims

/-! ### The User bank's storage (R32, R33) -/

/-- The User words of R13, R14 and the saved status, written where no live register holds them. -/
def storeUserBank (s : State) (e : BankShadow) : State := { s with shadow := s.shadow.set .usr e }

/-- The User R8 to R12, written where no live register holds them. -/
def storeUserHigh (s : State) (e : Vector Word 5) : State := { s with shadow8_12 := s.shadow8_12.set .other e }

section
variable {s : State}

theorem bankView_usr_of_stored (h : s.mode.bank ≠ .usr) : bankView s .usr = s.shadow.usr := if_neg h.symm

theorem highView_other_of_stored (h : s.mode = .fiq) : highView s .other = s.shadow8_12.other := by
  rw [highView, h]; rfl

theorem bankView_storeUserBank (h : s.mode.bank ≠ .usr) (e : BankShadow) (b : Bank) :
    bankView (storeUserBank s e) b = if b = .usr then e else bankView s b := by
  by_cases usr : b = .usr
  · subst usr
    rw [bankView_usr_of_stored (s := storeUserBank s e) h, if_pos rfl]; rfl
  · simp only [bankView, storeUserBank, shadow_get_set, if_neg usr]
    rfl

theorem highView_storeUserHigh (h : s.mode = .fiq) (e : Vector Word 5) (k : HighBank) :
    highView (storeUserHigh s e) k = if k = .other then e else highView s k := by
  by_cases other : k = .other
  · subst other
    rw [highView_other_of_stored (s := storeUserHigh s e) h, if_pos rfl]; rfl
  · simp only [highView, storeUserHigh, highShadow_get_set, if_neg other]
    rfl

end

/-! ### Modes that share a register (R37) -/

theorem samePhysical_refl (m : Mode) (r : Reg) : SamePhysical m m r := by
  rcases reg_kinds r with k | rfl | rfl | ⟨k, hsp, hlr⟩
  · exact (samePhysical_high k).2 rfl
  · exact samePhysical_sp.2 rfl
  · exact samePhysical_lr.2 rfl
  · exact samePhysical_shared k hsp hlr

theorem samePhysical_symm {m m' : Mode} {r : Reg} (h : SamePhysical m m' r) : SamePhysical m' m r := by
  rcases reg_kinds r with k | rfl | rfl | ⟨k, hsp, hlr⟩
  · exact (samePhysical_high k).2 ((samePhysical_high k).1 h).symm
  · exact samePhysical_sp.2 (samePhysical_sp.1 h).symm
  · exact samePhysical_lr.2 (samePhysical_lr.1 h).symm
  · exact samePhysical_shared k hsp hlr

theorem samePhysical_trans {m m' m'' : Mode} {r : Reg} (h : SamePhysical m m' r) (h' : SamePhysical m' m'' r) :
    SamePhysical m m'' r := by
  rcases reg_kinds r with k | rfl | rfl | ⟨k, hsp, hlr⟩
  · exact (samePhysical_high k).2 (((samePhysical_high k).1 h).trans ((samePhysical_high k).1 h'))
  · exact samePhysical_sp.2 ((samePhysical_sp.1 h).trans (samePhysical_sp.1 h'))
  · exact samePhysical_lr.2 ((samePhysical_lr.1 h).trans (samePhysical_lr.1 h'))
  · exact samePhysical_shared k hsp hlr

/-! ### `UserReg` (R308) -/

theorem userReg_eq_view (s : State) (r : Reg) : s.userReg r = s.view .usr r := by
  have fiq : s.mode = .fiq ↔ Mode.usr.bank.high ≠ s.mode.bank.high := by cases s.mode <;> decide
  have usr : s.mode.bank = .usr ↔ Mode.usr.bank = s.mode.bank := eq_comm
  simp only [State.userReg, State.view, fiq, usr, ite_not]
  rfl

/-- What a write to a User register does: it writes the live register if that is the User's, and otherwise the storage. -/
theorem setUserReg_cases (s : State) (r : Reg) (v : Word) :
    (SamePhysical s.mode .usr r ∧ s.setUserReg r v = s.setReg r v) ∨
    (∃ h : 8 ≤ r.toNat ∧ r.toNat ≤ 12, s.mode = .fiq ∧
      s.setUserReg r v = storeUserHigh s (s.shadow8_12.other.set (r.toNat - 8) v (by omega))) ∨
    (r = Reg.sp ∧ s.mode.bank ≠ .usr ∧ s.setUserReg r v = storeUserBank s { s.shadow.usr with r13 := v }) ∨
    (r = Reg.lr ∧ s.mode.bank ≠ .usr ∧ s.setUserReg r v = storeUserBank s { s.shadow.usr with r14 := v }) := by
  unfold State.setUserReg
  rcases reg_kinds r with k | rfl | rfl | ⟨k, hsp, hlr⟩
  · by_cases fiq : s.mode = .fiq
    · exact .inr (.inl ⟨k, fiq, by rw [dif_pos k, if_pos fiq]; rfl⟩)
    · refine .inl ⟨?_, by rw [dif_pos k, if_neg fiq]⟩
      rw [SamePhysical, if_pos k]
      exact iff_of_false fiq nofun
  · by_cases usr : s.mode.bank = .usr
    · exact .inl ⟨usr, if_pos usr⟩
    · exact .inr (.inr (.inl ⟨rfl, usr, if_neg usr⟩))
  · by_cases usr : s.mode.bank = .usr
    · exact .inl ⟨usr, if_pos usr⟩
    · exact .inr (.inr (.inr ⟨rfl, usr, if_neg usr⟩))
  · exact .inl ⟨samePhysical_shared k hsp hlr, by rw [dif_neg k, if_neg hsp, if_neg hlr]⟩

section
variable (s : State) {m : Mode} {r : Reg} (v : Word)

/-- A write to a User register is seen by the modes that share it. -/
theorem view_setUserReg_same (h : SamePhysical m .usr r) : (s.setUserReg r v).view m r = v := by
  rcases setUserReg_cases s r v with ⟨live, e⟩ | ⟨k, fiq, e⟩ | ⟨rfl, usr, e⟩ | ⟨rfl, usr, e⟩
  · rw [e]
    exact view_setReg_same v (samePhysical_trans h (samePhysical_symm live))
  · have other : m.bank.high = .other := (samePhysical_high k).1 h
    rw [e, view_high _ m k]
    simp only [highView_storeUserHigh fiq, if_pos other, Vector.getElem_set_self]
  · have bank : m.bank = .usr := h
    rw [e, view_sp, bankView_storeUserBank usr, if_pos bank]
  · have bank : m.bank = .usr := h
    rw [e, view_lr, bankView_storeUserBank usr, if_pos bank]

/-- Storing R8 to R12 of User mode changes no view of a register that it stores as it was. -/
theorem view_storeUserHigh_of_same (fiq : s.mode = .fiq) (e : Vector Word 5)
    (h : ∀ k : 8 ≤ r.toNat ∧ r.toNat ≤ 12, m.bank.high = .other →
      e[r.toNat - 8]'(by omega) = s.shadow8_12.other[r.toNat - 8]'(by omega)) :
    (storeUserHigh s e).view m r = s.view m r := by
  rcases reg_kinds r with k | rfl | rfl | ⟨k, hsp, hlr⟩
  · rw [view_high _ m k, view_high s m k]
    by_cases other : m.bank.high = .other
    · simp only [highView_storeUserHigh fiq, other, if_true, highView_other_of_stored fiq, h k other]
    · simp only [highView_storeUserHigh fiq, if_neg other]
  · rw [view_sp, view_sp]; rfl
  · rw [view_lr, view_lr]; rfl
  · rw [view_shared _ m k hsp hlr, view_shared s m k hsp hlr]; rfl

/-- Storing R13 and R14 of User mode changes no view of a register that it stores as it was. -/
theorem view_storeUserBank_of_same (stored : s.mode.bank ≠ .usr) (e : BankShadow)
    (h13 : r = Reg.sp → m.bank = .usr → e.r13 = s.shadow.usr.r13)
    (h14 : r = Reg.lr → m.bank = .usr → e.r14 = s.shadow.usr.r14) :
    (storeUserBank s e).view m r = s.view m r := by
  rcases reg_kinds r with k | rfl | rfl | ⟨k, hsp, hlr⟩
  · rw [view_high _ m k, view_high s m k]; rfl
  · rw [view_sp, view_sp, bankView_storeUserBank stored]
    split
    · next usr => rw [usr, bankView_usr_of_stored stored, h13 rfl usr]
    · rfl
  · rw [view_lr, view_lr, bankView_storeUserBank stored]
    split
    · next usr => rw [usr, bankView_usr_of_stored stored, h14 rfl usr]
    · rfl
  · rw [view_shared _ m k hsp hlr, view_shared s m k hsp hlr]; rfl

/-- A write to a User register is seen under no other number and by no other mode. -/
theorem view_setUserReg_other {q : Reg} (h : ¬ (q = r ∧ SamePhysical m .usr q)) :
    (s.setUserReg r v).view m q = s.view m q := by
  rcases setUserReg_cases s r v with ⟨live, e⟩ | ⟨hr, fiq, e⟩ | ⟨rfl, stored, e⟩ | ⟨rfl, stored, e⟩
  · rw [e]
    refine view_congr_live (s := s) (t := s.setReg r v) rfl rfl rfl fun same => State.reg_setReg_ne s v ?_
    rintro rfl
    exact h ⟨rfl, samePhysical_trans same live⟩
  · rw [e]
    refine view_storeUserHigh_of_same s fiq _ fun hq other => Vector.getElem_set_ne _ _ fun same => ?_
    obtain rfl : q = r := BitVec.eq_of_toNat_eq (by omega)
    exact h ⟨rfl, (samePhysical_high hq).2 other⟩
  · rw [e]
    exact view_storeUserBank_of_same s stored _ (fun same usr => absurd ⟨same, same ▸ usr⟩ h) fun _ _ => rfl
  · rw [e]
    exact view_storeUserBank_of_same s stored _ (fun _ _ => rfl) fun same usr => absurd ⟨same, same ▸ usr⟩ h

theorem viewSpsr_storeUserBank_of_same (stored : s.mode.bank ≠ .usr) (e : BankShadow) (h : e.spsr = s.shadow.usr.spsr) :
    (storeUserBank s e).viewSpsr m = s.viewSpsr m := by
  rw [viewSpsr_eq, viewSpsr_eq, bankView_storeUserBank stored]
  split
  · next usr => rw [usr, bankView_usr_of_stored stored, h]
  · rfl

/-- A write to a User register writes no saved status. -/
theorem viewSpsr_setUserReg : (s.setUserReg r v).viewSpsr m = s.viewSpsr m := by
  rcases setUserReg_cases s r v with ⟨-, e⟩ | ⟨_, -, e⟩ | ⟨-, stored, e⟩ | ⟨-, stored, e⟩
  · rw [e]; rfl
  · rw [e]; rfl
  · rw [e]; exact viewSpsr_storeUserBank_of_same s stored _ rfl
  · rw [e]; exact viewSpsr_storeUserBank_of_same s stored _ rfl

end

/-! ### Loading the User registers (R303, R308) -/

/-- One loaded User register: the PC is left out. -/
theorem view_writeLoadedOne_user_other (s : State) {m : Mode} {q : Reg} (d : Reg × Word)
    (h : ¬ (d.1 = q ∧ SamePhysical m .usr q)) : (s.writeLoadedOne true d).view m q = s.view m q := by
  unfold State.writeLoadedOne
  split
  · rfl
  · exact view_setUserReg_other s d.2 fun ⟨same, usr⟩ => h ⟨same.symm, usr⟩

/-- A mode that has its own register, or a register that is not loaded, keeps its value. -/
theorem view_writeLoaded_user_other (s : State) (data : List (Reg × Word)) {m : Mode} {q : Reg}
    (h : ∀ d ∈ data, ¬ (d.1 = q ∧ SamePhysical m .usr q)) : (s.writeLoaded data true).view m q = s.view m q := by
  induction data generalizing s with
  | nil => rfl
  | cons d rest ih =>
    rw [State.writeLoaded, ih _ fun e he => h e (List.mem_cons_of_mem _ he)]
    exact view_writeLoadedOne_user_other s d (h d List.mem_cons_self)

/-- A loaded register is its word, as User mode sees it. -/
theorem view_writeLoaded_user_listed (s : State) {before after : List (Reg × Word)} {r : Reg} (v : Word) (hr : r ≠ Reg.pc)
    (hafter : ∀ d ∈ after, d.1 ≠ r) {m : Mode} (h : SamePhysical m .usr r) :
    (s.writeLoaded (before ++ (r, v) :: after) true).view m r = v := by
  rw [writeLoaded_append, State.writeLoaded, view_writeLoaded_user_other _ _ fun d hd same => hafter d hd same.1,
    State.writeLoadedOne, if_neg hr]
  exact view_setUserReg_same _ v h

theorem viewSpsr_writeLoaded_user (s : State) (data : List (Reg × Word)) (m : Mode) :
    (s.writeLoaded data true).viewSpsr m = s.viewSpsr m := by
  induction data generalizing s with
  | nil => rfl
  | cons d rest ih =>
    rw [State.writeLoaded, ih, State.writeLoadedOne]
    split
    · rfl
    · exact viewSpsr_setUserReg s d.2

/-! ### LDM with S and without register 15 (R303, R308) -/

/-- The state of a block load after its write-back (R303). -/
def baseWritten (f : BdtForm) (s : State) : State :=
  let s1 := s.blockCost (registerCount f.rlist) (blockStart f.p f.u (s.reg f.rn) f.rlist) false
  if f.w then s1.setReg f.rn (blockNewBase f.u (s.reg f.rn) f.rlist) else s1

/-- The state LDM to the User bank answers. -/
def userLoaded (f : BdtForm) (s : State) : State :=
  ((baseWritten f s).writeLoaded (s.blockData (blockStart f.p f.u (s.reg f.rn) f.rlist) (registersOf f.rlist))
    true).internalCycle

section
variable (f : BdtForm) (s : State)

/-- The write-back changes live registers and timing alone. -/
theorem baseWritten_eq :
    baseWritten f s =
      { s with x := (baseWritten f s).x, cycles := (baseWritten f s).cycles
               fetchNonSeq := (baseWritten f s).fetchNonSeq } := by
  simp only [baseWritten]
  rw [State.blockCost_eq]
  split <;> rfl

theorem reg_baseWritten (r : Reg) :
    (baseWritten f s).reg r =
      if f.w = true ∧ r = f.rn then newBase f.u (s.reg f.rn) (listSize f.rlist) else s.reg r := by
  simp only [baseWritten]
  cases f.w with
  | false => simp [State.reg_blockCost]
  | true => simp [State.reg_setReg, State.reg_blockCost, blockNewBase_eq]

theorem baseWritten_mode : (baseWritten f s).mode = s.mode := by rw [baseWritten_eq]

theorem baseWritten_shadow : (baseWritten f s).shadow = s.shadow := by rw [baseWritten_eq]

/-- A mode that does not see the base written back sees no change. -/
theorem view_baseWritten_other {m : Mode} {r : Reg} (h : ¬ (f.w = true ∧ r = f.rn ∧ SamePhysical m s.mode r)) :
    (baseWritten f s).view m r = s.view m r := by
  refine view_congr_live (baseWritten_mode f s) (baseWritten_shadow f s) (by rw [baseWritten_eq]) fun same => ?_
  exact (reg_baseWritten f s r).trans (if_neg fun ⟨written, base⟩ => h ⟨written, base, same⟩)

/-- The register writes of a block load charge nothing. -/
theorem baseWritten_timing :
    (baseWritten f s).cycles = (blockLoaded f s).cycles ∧ (baseWritten f s).fetchNonSeq = (blockLoaded f s).fetchNonSeq := by
  have loaded : blockLoaded f s = (baseWritten f s).writeLoaded _ false := rfl
  rw [loaded, State.writeLoaded_live_eq]
  exact ⟨rfl, rfl⟩

/-- LDM to the User bank changes registers, banks and timing alone. -/
theorem userLoaded_eq :
    userLoaded f s =
      { s with x := (userLoaded f s).x, shadow := (userLoaded f s).shadow, shadow8_12 := (userLoaded f s).shadow8_12
               cycles := (blockLoaded f s).cycles + 1, fetchNonSeq := (blockLoaded f s).fetchNonSeq } := by
  obtain ⟨cycles, seq⟩ := baseWritten_timing f s
  rw [← cycles, ← seq]
  unfold userLoaded
  rw [State.writeLoaded_eq, baseWritten_eq]
  rfl

theorem userLoaded_mode : (userLoaded f s).mode = s.mode := by rw [userLoaded_eq]

theorem view_userLoaded_listed {r : Reg} (h : InList f.rlist r) (hr : r ≠ Reg.pc) :
    (userLoaded f s).view .usr r =
      s.wordAt (slot (startAddress f.p f.u (s.reg f.rn) (listSize f.rlist)) f.rlist r) := by
  obtain ⟨before, after, e, -, hafter⟩ :=
    blockData_split s f.rlist r h (startAddress f.p f.u (s.reg f.rn) (listSize f.rlist))
  rw [userLoaded, blockStart_eq, e]
  exact view_writeLoaded_user_listed _ _ hr hafter (samePhysical_refl _ r)

/-- A view that no loaded User register changes is that after the write-back. -/
theorem view_userLoaded_unlisted {m : Mode} {r : Reg} (h : ¬ (InList f.rlist r ∧ SamePhysical m .usr r)) :
    (userLoaded f s).view m r = (baseWritten f s).view m r := by
  refine view_writeLoaded_user_other _ _ fun d hd => ?_
  rintro ⟨rfl, usr⟩
  refine h ⟨(mem_registersOf f.rlist d.1).1 ?_, usr⟩
  rw [← State.blockData_fst s (blockStart f.p f.u (s.reg f.rn) f.rlist) (registersOf f.rlist)]
  exact List.mem_map_of_mem hd

/-- The base written back is the live register. -/
theorem reg_userLoaded_base (hw : f.w = true) (h : ¬ (InList f.rlist f.rn ∧ SamePhysical s.mode .usr f.rn)) :
    (userLoaded f s).reg f.rn = newBase f.u (s.reg f.rn) (listSize f.rlist) :=
  calc (userLoaded f s).reg f.rn
    _ = (userLoaded f s).view s.mode f.rn := by rw [← view_mode, userLoaded_mode]
    _ = (baseWritten f s).view s.mode f.rn := view_userLoaded_unlisted f s h
    _ = (baseWritten f s).reg f.rn := by rw [← view_mode, baseWritten_mode]
    _ = newBase f.u (s.reg f.rn) (listSize f.rlist) := (reg_baseWritten f s f.rn).trans (if_pos ⟨hw, rfl⟩)

theorem sameViews_userLoaded :
    SameViewsBut s (userLoaded f s) fun m r =>
      (InList f.rlist r ∧ SamePhysical m .usr r) ∨ (f.w = true ∧ r = f.rn ∧ SamePhysical m s.mode r) := by
  refine ⟨fun m r untouched => ?_, fun m => ?_⟩
  · obtain ⟨unlisted, notBase⟩ := not_or.1 untouched
    rw [view_userLoaded_unlisted f s unlisted, view_baseWritten_other f s notBase]
  · refine (viewSpsr_writeLoaded_user (baseWritten f s) _ m).trans ?_
    exact viewSpsr_congr (baseWritten_mode f s) (baseWritten_shadow f s) (by rw [baseWritten_eq]) m

theorem frame_userLoaded (notEmpty : f.rlist ≠ 0#16) :
    let t := userLoaded f s.fetchCost
    SameFlags s t ∧ SameControl s t ∧ SameMemory s t ∧ t.log = s.log ∧
      Charged s t (blockCharge (startAddress f.p f.u (s.reg f.rn) (listSize f.rlist)) (listSize f.rlist) + 1) true := by
  obtain ⟨r, listed⟩ := exists_inList_of_ne_zero notEmpty
  obtain ⟨cycles, seq⟩ := blockLoaded_timing f s.fetchCost listed
  rw [userLoaded_eq, cycles, seq, fetchCost_cycles, Nat.add_assoc]
  exact ⟨⟨rfl, rfl, rfl, rfl⟩, ⟨rfl, rfl, rfl, rfl⟩, ⟨fun _ => rfl, rfl, rfl⟩, rfl, rfl, rfl, rfl⟩

end

theorem loadMultiple_user {f : BdtForm} {s : State} (notEmpty : f.rlist ≠ 0#16) (hs : f.s = true)
    (h15 : ¬ InList f.rlist Reg.pc) : Machine.loadMultiple f s = .next (userLoaded f s) := by
  have bit : f.rlist.getLsbD 15 = false := Bool.eq_false_of_not_eq_true h15
  simp only [Machine.loadMultiple, if_neg notEmpty, hs, bit, Bool.and_false, Bool.false_and, Bool.false_eq_true,
    if_false, Bool.not_false, Bool.and_true]
  rfl

/-- Settles O48: the write-back is live, the loads are the User registers'. -/
theorem loadMultipleUserBank : Obligations.LoadMultipleUserBank := by
  intro f s holds notEmpty hs h15 n start
  refine ⟨userLoaded f s.fetchCost, (prologue_of_holds holds _).trans (loadMultiple_user notEmpty hs h15),
    userLoaded_mode f s.fetchCost, fun r listed => view_userLoaded_listed f s.fetchCost listed ?_,
    fun hw h => reg_userLoaded_base f s.fetchCost hw h, sameViews_userLoaded f s.fetchCost, frame_userLoaded f s notEmpty⟩
  rintro rfl
  exact h15 listed

end Sys2Proof.Proofs
end

section
/-!
PROOF. STM (spec/46_arm_block_transfer.md R300 to R308): a block store writes each word to its own granule, so its bytes are
those of its words; then which word stands at which slot, and the write-back.
-/

namespace Sys2Proof.Proofs

open Sys2Proof.Machine Sys2Proof.Claims

/-! ### Stores one after another (R71, R84) -/

section
variable {s t u : State} {W W' : Word → Byte → Prop}

/-- Two stores that write no byte in common write the bytes of both. -/
theorem stores_trans (first : Stores s t W) (second : Stores t u W') (apart : ∀ a b b', W a b → ¬ W' a b') :
    Stores s u fun a b => W a b ∨ W' a b := by
  obtain ⟨bytes, others, arm, thumb⟩ := first
  obtain ⟨bytes', others', arm', thumb'⟩ := second
  have either (P : Word → Prop) :
      (∃ a b, (W a b ∨ W' a b) ∧ P a) ↔ (∃ a b, W a b ∧ P a) ∨ ∃ a b, W' a b ∧ P a := by
    simp only [or_and_right, exists_or]
  refine ⟨fun a b written => ?_, fun a unwritten => ?_, fun e => ?_, fun e => ?_⟩
  · rcases written with h | h
    · rw [others' a fun b' => apart a b b' h, bytes a b h]
    · exact bytes' a b h
  · rw [others' a fun b h => unwritten b (.inr h), others a fun b h => unwritten b (.inl h)]
  · rw [either fun a => (a &&& 0xFFFFFFFC#32).toNat = e.1, not_or, ← and_assoc, ← arm, arm']
  · rw [either fun a => (a &&& 0xFFFFFFFE#32).toNat = e.1, not_or, ← and_assoc, ← thumb, thumb']

/-- What changes neither memory nor the cache after a store changes nothing of what it wrote. -/
theorem stores_of_sameMemory (h : Stores s t W) (same : SameMemory t u) : Stores s u W := by
  obtain ⟨bytes, others, arm, thumb⟩ := h
  obtain ⟨sameBytes, sameArm, sameThumb⟩ := same
  refine ⟨fun a b written => (sameBytes a).trans (bytes a b written),
    fun a unwritten => (sameBytes a).trans (others a unwritten), ?_, ?_⟩
  · rwa [sameArm]
  · rwa [sameThumb]

end

/-! ### The words of a block store (R300, R302) -/

/-- The bytes of a list of words at consecutive ascending addresses, each aligned. -/
def WordsBytes (a : Word) (vs : List Word) (c : Word) (b : Byte) : Prop :=
  ∃ k v, vs[k]? = some v ∧ StoredByte .word (alignWord (a + BitVec.ofNat 32 (4 * k))) v c b

theorem wordsBytes_cons (a v : Word) (vs : List Word) :
    WordsBytes a (v :: vs) = fun c b => StoredByte .word (alignWord a) v c b ∨ WordsBytes (a + 4#32) vs c b := by
  have next (k : Nat) : a + 4#32 + BitVec.ofNat 32 (4 * k) = a + BitVec.ofNat 32 (4 * (k + 1)) := by
    rw [BitVec.add_assoc, ← BitVec.ofNat_add, Nat.mul_add, Nat.add_comm]
  funext c b
  refine propext ⟨?_, ?_⟩
  · rintro ⟨k, w, hw, stored⟩
    cases k with
    | zero =>
      obtain rfl : v = w := Option.some.inj hw
      rw [Nat.mul_zero, BitVec.add_zero] at stored
      exact .inl stored
    | succ k => exact .inr ⟨k, w, hw, next k ▸ stored⟩
  · rintro (stored | ⟨k, w, hw, stored⟩)
    · refine ⟨0, v, rfl, ?_⟩
      rwa [Nat.mul_zero, BitVec.add_zero]
    · exact ⟨k + 1, w, hw, next k ▸ stored⟩

/-- A word store writes in one granule. -/
theorem alignWord_of_storedByte {a v c : Word} {b : Byte} (h : StoredByte .word (alignWord a) v c b) :
    alignWord c = alignWord a := by
  obtain ⟨j, hj, rfl, -⟩ := h
  have twice : alignWord (alignWord a) = alignWord a := by
    have add := alignWord_add a (j := 0) (by decide)
    rwa [BitVec.add_zero] at add
  rw [Width.storeBase, twice, alignWord_add a hj]

/-- Words less than 2^30 apart lie in different granules. -/
theorem alignWord_add_ne (a : Word) {k : Nat} (pos : 0 < k) (small : k < 2 ^ 30) :
    alignWord (a + BitVec.ofNat 32 (4 * k)) ≠ alignWord a := by
  intro e
  have e := congrArg BitVec.toNat e
  have := a.isLt
  rw [alignWord_toNat, alignWord_toNat, BitVec.toNat_add, BitVec.toNat_ofNat] at e
  omega

theorem stores_nothing (s : State) (a : Word) : Stores s s (WordsBytes a []) := by
  have none (c : Word) (b : Byte) : ¬ WordsBytes a [] c b := fun ⟨_, _, h, _⟩ => nomatch h
  refine ⟨fun c b h => absurd h (none c b), fun _ _ => rfl, fun e => ?_, fun e => ?_⟩
  · exact ⟨fun h => ⟨h, fun ⟨c, b, w, _⟩ => none c b w⟩, And.left⟩
  · exact ⟨fun h => ⟨h, fun ⟨c, b, w, _⟩ => none c b w⟩, And.left⟩

/-- A block store writes the bytes of its words. -/
theorem stores_blockStore (s : State) (a : Word) (vs : List Word) (short : vs.length ≤ 2 ^ 30) :
    Stores s (s.blockStore vs a) (WordsBytes a vs) := by
  induction vs generalizing s a with
  | nil => exact stores_nothing s a
  | cons v rest ih =>
    rw [wordsBytes_cons, State.blockStore]
    rw [List.length_cons] at short
    refine stores_trans (storeWritesItsBytes s .word (alignWord a) v) (ih _ (a + 4#32) (by omega)) ?_
    rintro c b b' first ⟨k, w, hw, later⟩
    have inside : k < rest.length := (List.getElem?_eq_some_iff.1 hw).1
    have far := alignWord_add_ne a (k := k + 1) (by omega) (by omega)
    have granule := (alignWord_of_storedByte later).symm.trans (alignWord_of_storedByte first)
    rw [BitVec.add_assoc, ← BitVec.ofNat_add, Nat.add_comm] at granule
    exact far granule

/-! ### The words at the slots (R301, R304) -/

/-- The register at place `k` of a list is the listed register of rank `k`. -/
theorem getElem?_registersOf {l : BitVec 16} {k : Nat} {r : Reg} :
    (registersOf l)[k]? = some r ↔ InList l r ∧ k = rank l r := by
  constructor
  · intro h
    have listed := (mem_registersOf l r).1 (List.mem_of_getElem? h)
    obtain ⟨before, after, e, hrank, hbefore, hafter⟩ := registersOf_split l r listed
    refine ⟨listed, ?_⟩
    rw [e] at h
    rcases Nat.lt_trichotomy k before.length with below | rfl | above
    · rw [List.getElem?_append_left below] at h
      exact absurd (hbefore r (List.mem_of_getElem? h)).1 (Nat.lt_irrefl _)
    · exact hrank
    · rw [List.getElem?_append_right above.le, List.getElem?_cons, if_neg (by omega)] at h
      exact absurd (hafter r (List.mem_of_getElem? h)).1 (Nat.lt_irrefl _)
  · rintro ⟨listed, rfl⟩
    obtain ⟨before, after, e, hrank, -⟩ := registersOf_split l r listed
    rw [e, ← hrank, List.getElem?_append_right (Nat.le_refl _), Nat.sub_self, List.getElem?_cons_zero]

theorem exists_listSize_eq_succ {l : BitVec 16} (h : l ≠ 0#16) : ∃ n, listSize l = n + 1 := by
  obtain ⟨r, listed⟩ := exists_inList_of_ne_zero h
  have pos := List.length_pos_of_mem ((mem_registersOf l r).2 listed)
  exact Nat.exists_eq_succ_of_ne_zero (listSize_eq l ▸ pos.ne')

/-- A value for each listed register, stored from the start address, stands at its slot. -/
theorem wordsBytes_registersOf (start : Word) (l : BitVec 16) (value : Reg → Word) :
    WordsBytes start ((registersOf l).map value) = BlockBytes start l value := by
  funext c b
  refine propext ⟨?_, ?_⟩
  · rintro ⟨k, v, hv, stored⟩
    rw [List.getElem?_map] at hv
    obtain ⟨r, hr, rfl⟩ := Option.map_eq_some_iff.1 hv
    obtain ⟨listed, rfl⟩ := getElem?_registersOf.1 hr
    exact ⟨r, listed, stored⟩
  · rintro ⟨r, listed, stored⟩
    refine ⟨rank l r, value r, ?_, stored⟩
    rw [List.getElem?_map, getElem?_registersOf.2 ⟨listed, rfl⟩, Option.map_some]

theorem length_registersOf_le (l : BitVec 16) : (registersOf l).length ≤ 16 := by
  rw [registersOf, List.length_map]
  exact List.length_filter_le _ _

/-- A block store of a value for each listed register (R300 to R302). -/
theorem stores_blockStore_registersOf (s : State) (start : Word) (l : BitVec 16) (value : Reg → Word) :
    Stores s (s.blockStore ((registersOf l).map value) start) (BlockBytes start l value) := by
  have short := length_registersOf_le l
  rw [← wordsBytes_registersOf]
  exact stores_blockStore s start _ (by rw [List.length_map]; omega)

/-! ### STM (R304 to R306, R308) -/

/-- The word STM stores for a listed register. -/
def storedValue (f : BdtForm) (s : State) (r : Reg) : Word :=
  if r = f.rn ∧ f.w = true ∧ rank f.rlist r ≠ 0 then newBase f.u (s.reg f.rn) (listSize f.rlist)
  else if r = 15#4 then s.pc + 4#32
  else if f.s then s.view .usr r
  else s.reg r

section
variable (f : BdtForm) (s : State)

/-- The lowest register of a list is the one of rank 0. -/
theorem storedWord_eq_storedValue {r : Reg} {first : Bool} (h : first = true ↔ rank f.rlist r = 0) :
    storedWord f s (newBase f.u (s.reg f.rn) (listSize f.rlist)) first r = storedValue f s r := by
  have base : (decide (r = f.rn) && f.w && !first) = true ↔ r = f.rn ∧ f.w = true ∧ rank f.rlist r ≠ 0 := by
    rw [Bool.and_eq_true, Bool.and_eq_true, decide_eq_true_iff, Bool.not_eq_true', ← Bool.not_eq_true, h, and_assoc]
  simp only [storedWord, storedValue, base, userReg_eq_view]
  by_cases hr : r = Reg.pc
  · subst hr; rfl
  · simp only [if_neg hr]

theorem storedWords_eq_map :
    storedWords f s (newBase f.u (s.reg f.rn) (listSize f.rlist)) = (registersOf f.rlist).map (storedValue f s) := by
  unfold storedWords
  cases e : registersOf f.rlist with
  | nil => rfl
  | cons r rest =>
    have place (k : Nat) (q : Reg) (h : (r :: rest)[k]? = some q) : k = rank f.rlist q :=
      (getElem?_registersOf.1 (e ▸ h)).2
    have lowest : rank f.rlist r = 0 := (place 0 r rfl).symm
    refine congrArg₂ List.cons (storedWord_eq_storedValue f s (iff_of_true rfl lowest)) (List.map_congr_left fun q hq => ?_)
    obtain ⟨k, hk⟩ := List.mem_iff_getElem?.1 hq
    have higher : rank f.rlist q ≠ 0 := place (k + 1) q hk ▸ Nat.succ_ne_zero k
    exact storedWord_eq_storedValue f s (iff_of_false nofun higher)

/-- The state of STM before its write-back. -/
def blockStored (f : BdtForm) (s : State) : State :=
  let start := startAddress f.p f.u (s.reg f.rn) (listSize f.rlist)
  (s.blockStore ((registersOf f.rlist).map (storedValue f s)) start).blockCost (listSize f.rlist) start false

/-- The state STM answers. -/
def storedMultiple (f : BdtForm) (s : State) : State :=
  if f.w then (blockStored f s).setReg f.rn (newBase f.u (s.reg f.rn) (listSize f.rlist)) else blockStored f s

theorem storeMultiple_eq {f : BdtForm} {s : State} (notEmpty : f.rlist ≠ 0#16) :
    Machine.storeMultiple f s = .next (storedMultiple f s) := by
  rw [Machine.storeMultiple, if_neg notEmpty]
  simp only [blockStart_eq, blockNewBase_eq, ← listSize_eq, storedWords_eq_map]
  rfl

theorem reg_blockStored (r : Reg) : (blockStored f s).reg r = s.reg r :=
  (State.reg_blockCost _ _ _ _ r).trans (State.reg_congr (s.onlyMemory_blockStore _ _).x r)

theorem reg_storedMultiple (r : Reg) :
    (storedMultiple f s).reg r =
      if f.w = true ∧ r = f.rn then newBase f.u (s.reg f.rn) (listSize f.rlist) else s.reg r := by
  unfold storedMultiple
  cases f.w with
  | false => simp [reg_blockStored]
  | true => simp [State.reg_setReg, reg_blockStored]

/-- The write-back changes live registers alone. -/
theorem storedMultiple_eq : storedMultiple f s = { blockStored f s with x := (storedMultiple f s).x } := by
  unfold storedMultiple
  split <;> rfl

theorem stores_storedMultiple :
    Stores s (storedMultiple f s)
      (BlockBytes (startAddress f.p f.u (s.reg f.rn) (listSize f.rlist)) f.rlist (storedValue f s)) := by
  refine stores_of_sameMemory (stores_blockStore_registersOf s _ f.rlist (storedValue f s)) ?_
  rw [storedMultiple_eq, blockStored, State.blockCost_eq]
  exact ⟨fun _ => rfl, rfl, rfl⟩

theorem frame_storedMultiple (notEmpty : f.rlist ≠ 0#16) :
    let t := storedMultiple f s.fetchCost
    SameFlags s t ∧ SameRest s t ∧
      Charged s t (blockCharge (startAddress f.p f.u (s.reg f.rn) (listSize f.rlist)) (listSize f.rlist)) true := by
  obtain ⟨n, hn⟩ := exists_listSize_eq_succ notEmpty
  have only := s.fetchCost.onlyMemory_blockStore (startAddress f.p f.u (s.reg f.rn) (listSize f.rlist))
    ((registersOf f.rlist).map (storedValue f s.fetchCost))
  obtain ⟨cycles, -, passed⟩ := only.timing
  have charge : (blockStored f s.fetchCost).cycles = s.cycles + fetchCharge s +
      blockCharge (startAddress f.p f.u (s.reg f.rn) (listSize f.rlist)) (listSize f.rlist) := by
    rw [← fetchCost_cycles, ← cycles, hn, ← blockCost_cycles, ← hn]
    rfl
  have seq : (blockStored f s.fetchCost).fetchNonSeq = true := by
    simp only [blockStored, hn]
    exact State.blockCost_fetchNonSeq _ _ _ n
  rw [storedMultiple_eq]
  refine ⟨?_, ?_, charge, seq, ?_⟩
  all_goals rw [blockStored, State.blockCost_eq]
  · exact only.flags
  · exact ⟨only.control, only.banks, only.log⟩
  · exact passed

end

/-- Settles O50: the words are read before the first store, and the write-back follows the last. -/
theorem storeMultiple : Obligations.StoreMultiple := by
  intro f s holds notEmpty n start value
  refine ⟨storedMultiple f s.fetchCost, (prologue_of_holds holds _).trans (storeMultiple_eq notEmpty),
    stores_storedMultiple f s.fetchCost, fun hw => ?_, fun r untouched => ?_, frame_storedMultiple f s notEmpty⟩
  · exact (reg_storedMultiple f s.fetchCost f.rn).trans (if_pos ⟨hw, rfl⟩)
  · exact (reg_storedMultiple f s.fetchCost r).trans (if_neg untouched)

end Sys2Proof.Proofs
end

section
/-!
PROOF. Exceptions and reset (spec/60_exceptions.md sections 1 to 3): what taking an exception does, for the interrupt and the
software interrupt alike, the return from an interrupt, and the reset procedure.
-/

namespace Sys2Proof.Proofs

open Sys2Proof.Machine Sys2Proof.Claims

/-! ### Taking an exception (R442, R446) -/

section
variable (s : State) (m : Mode) (ret target : Word)

/-- The return address is the link register of every mode that shares the handler's bank; no mode sees another change. -/
theorem view_takeException {m' : Mode} {r : Reg} (hpc : r ≠ Reg.pc) (hlr : r = Reg.lr → m'.bank ≠ m.bank) :
    (s.takeException m ret target).view m' r = s.view m' r := by
  have mode : (s.takeException m ret target).mode = (s.switchModeTo m).mode := rfl
  refine (view_congr_live (s := s.switchModeTo m) mode rfl rfl fun shared => ?_).trans (view_switchModeTo s m m' r)
  rw [State.switchModeTo_mode] at shared
  have notLr : r ≠ Reg.lr := by
    rintro rfl
    exact hlr rfl (samePhysical_lr.1 shared)
  rw [State.reg_takeException, if_neg hpc, if_neg notLr]

theorem viewSpsr_takeException {m' : Mode} (h : m'.bank ≠ m.bank) :
    (s.takeException m ret target).viewSpsr m' = s.viewSpsr m' := by
  rw [← viewSpsr_switchModeTo s m m', State.takeException_eq, State.viewSpsr, State.viewSpsr, State.switchModeTo_mode,
    if_neg h, if_neg h]

/-- The handler starts in its mode and in ARM state, with I set and the status word saved. -/
theorem control_takeException :
    let t := s.takeException m ret target
    t.mode = m ∧ t.spsr = s.packStatus ∧ t.reg Reg.lr = ret ∧ t.pc = target ∧ t.t = false ∧ t.i = true ∧ t.f = s.f := by
  refine ⟨by rw [State.takeException_eq], rfl, ?_, State.pc_setPc _ _, rfl, rfl, switchModeTo_f s m⟩
  rw [State.reg_takeException, if_neg (by decide), if_pos rfl]

theorem frame_takeException :
    let t := s.takeException m ret target
    SameFlags s t ∧ SameMemory s t ∧ t.cycles = s.cycles ∧ t.fetchNonSeq = s.fetchNonSeq ∧
      t.condPassed = s.condPassed ∧ t.log = s.log := by
  rw [State.takeException_eq]
  exact ⟨⟨rfl, rfl, rfl, rfl⟩, ⟨fun _ => rfl, rfl, rfl⟩, rfl, rfl, rfl, rfl⟩

end

/-- A mode with a saved status shares its bank with no other. -/
theorem eq_of_bank {m m' : Mode} (own : m.hasSpsr = true) (h : m'.bank = m.bank) : m' = m := by
  revert own h
  cases m <;> cases m' <;> decide

/-- Every mode's registers and saved status after an exception into a mode with a saved status: the link register and the
saved status of that mode, and the PC, are what changes. -/
theorem views_takeException (s : State) {m : Mode} (own : m.hasSpsr = true) (ret target : Word) :
    (∀ m' r, r ≠ Reg.pc → ¬ (m' = m ∧ r = Reg.lr) → (s.takeException m ret target).view m' r = s.view m' r) ∧
    ∀ m', m' ≠ m → (s.takeException m ret target).viewSpsr m' = s.viewSpsr m' := by
  have otherBank {m' : Mode} (h : m' ≠ m) : m'.bank ≠ m.bank := fun e => h (eq_of_bank own e)
  exact ⟨fun m' r hpc h => view_takeException s m ret target hpc fun hlr => otherBank fun e => h ⟨e, hlr⟩,
    fun m' h => viewSpsr_takeException s m ret target (otherBank h)⟩

/-- Settles O31: with I clear the entry is an exception into IRQ mode that marks the next fetch. -/
theorem interruptEntry : Obligations.InterruptEntry := by
  intro s
  refine ⟨fun masked => if_pos masked, fun unmasked => ?_⟩
  have entry : s.raiseInterrupt = s.irqEntry := if_neg (ne_true_of_eq_false unmasked)
  obtain ⟨mode, saved, link, pc, thumb, masked, fiq⟩ :=
    control_takeException s .irq (s.pc - s.width + 4#32) (Config.vectorIrq + 4#32)
  obtain ⟨flags, memory, cycles, -, -, log⟩ :=
    frame_takeException s .irq (s.pc - s.width + 4#32) (Config.vectorIrq + 4#32)
  obtain ⟨views, spsrs⟩ :=
    views_takeException s (m := .irq) rfl (s.pc - s.width + 4#32) (Config.vectorIrq + 4#32)
  rw [entry]
  exact ⟨mode, saved, link, pc, thumb, masked, fiq, rfl, flags, views, spsrs, memory, cycles, log⟩

/-- A software interrupt whose condition passes enters Supervisor mode after the fetch charge. -/
theorem exec_swiRow_of_holds {i : Instr} {c : Option Cond} {s : State} (row : SwiRow i c) (holds : HoldsOpt s c) :
    exec i s = .next (s.fetchCost.takeException .svc (s.pc - s.width) Config.vectorSwi) := by
  cases row with
  | swi f => exact prologue_of_holds holds fun u => .next u.softwareInterruptEntry
  | tSwi v => rfl

/-- Settles O34: an exception into Supervisor mode after the fetch charge, which no mode sees. -/
theorem softwareInterrupt : Obligations.SoftwareInterrupt := by
  intro i c s row holds
  obtain ⟨mode, saved, link, pc, thumb, masked, fiq⟩ :=
    control_takeException s.fetchCost .svc (s.pc - s.width) Config.vectorSwi
  obtain ⟨flags, memory, cycles, seq, passed, log⟩ :=
    frame_takeException s.fetchCost .svc (s.pc - s.width) Config.vectorSwi
  obtain ⟨views, spsrs⟩ :=
    views_takeException s.fetchCost (m := .svc) rfl (s.pc - s.width) Config.vectorSwi
  exact ⟨_, exec_swiRow_of_holds row holds, mode, saved, link, pc, thumb, masked, fiq, flags, views, spsrs, memory, log,
    cycles.trans (fetchCost_cycles s), seq, passed⟩

/-! ### The return from an interrupt (R447) -/

/-- A state that loaded its status from the packed status of another packs to the same word. -/
theorem packStatus_of_statusFrom {s t : State} (mode : t.mode = s.mode) (status : StatusFrom t s.packStatus) :
    t.packStatus = s.packStatus := by
  obtain ⟨sn, sz, sc, sv, si, sf, st⟩ := packStatus_fields s
  obtain ⟨hn, hz, hc, hv, hi, hf, ht⟩ := status
  rw [State.packStatus, hn, hz, hc, hv, hi, hf, ht, sn, sz, sc, sv, si, sf, st, mode]
  rfl

theorem statusFrom_finish {t : State} {w : Word} (status : StatusFrom t w) : StatusFrom (t.finish true) w := by
  obtain ⟨⟨hn, hz, hc, hv⟩, ⟨⟨hi, hf, ht, -⟩, -, -⟩, -⟩ := frame_finish t true
  rw [StatusFrom, hn, hz, hc, hv, hi, hf, ht]
  exact status

/-- The write-PC path changes no register but the PC, in the eyes of any mode. -/
theorem view_finish (t : State) (w : Bool) (m : Mode) {r : Reg} (hr : r ≠ Reg.pc) : (t.finish w).view m r = t.view m r := by
  obtain ⟨-, ⟨⟨-, -, -, mode⟩, ⟨-, shadow, high⟩, -⟩, -⟩ := frame_finish t w
  refine view_congr_live mode shadow high fun _ => ?_
  rw [finish_eq_writePcPath, State.writePcPath]
  split
  · split
    · rw [State.reg_setPc_ne _ _ hr, State.reg_refillCost]
    · rfl
  · rfl

/-- The instruction's own address, one width back from the PC, is already aligned to a halfword. -/
theorem alignHalf_sub_width {pc : Word} (even : pc.getLsbD 0 = false) (thumb : Bool) :
    alignHalf (pc - (if thumb then 2#32 else 4#32)) = pc - (if thumb then 2#32 else 4#32) := by
  rw [getLsbD_zero_eq, decide_eq_false_iff_not] at even
  apply BitVec.eq_of_toNat_eq
  rw [alignHalf_toNat]
  have := pc.isLt
  cases thumb <;> simp only [Bool.false_eq_true, if_true, if_false, BitVec.toNat_sub, BitVec.toNat_ofNat] <;> omega

/-- Settles O32: an exception return to the mode packed at the entry, whose write-PC path refills from the interrupted
instruction. -/
theorem interruptReturnRestores : Obligations.InterruptReturnRestores := by
  intro s h even mode saved link passed
  have row : DpRow (.subImm ⟨.al, true, 14#4, 15#4, 0#4, 4#8⟩) .sub .al true 14#4 15#4 (.imm 0#4 4#8) :=
    DpRow.imm .sub ⟨.al, true, 14#4, 15#4, 0#4, 4#8⟩
  have number : modeNumber s.mode = h.spsr.extractLsb' 0 5 := by rw [saved, packStatus_mode, modeNumber_eq]
  obtain ⟨t, run, pc, tmode, status, ⟨views, -⟩, memory, -, -, -, tpassed⟩ :=
    dataProcessingReturns _ _ _ _ _ h s.mode row rfl trivial (by rw [mode]; decide) (by rw [mode]; decide) number
  rw [saved] at status
  obtain ⟨-, ⟨⟨-, -, -, fmode⟩, -, -⟩, fmemory⟩ := frame_finish t true
  have thumb : t.t = s.t := by
    obtain ⟨-, -, -, -, -, -, ht⟩ := status
    obtain ⟨-, -, -, -, -, -, st⟩ := packStatus_fields s
    exact ht.trans st
  have target : t.pc = s.pc - (if s.t then 2#32 else 4#32) := by
    rw [pc, ← dpCompute_value]
    show (addWithCarry (h.reg 14#4) (~~~4#32) true).value = _
    rw [addWithCarry_complement_value, link, BitVec.add_sub_cancel]
  refine ⟨t, run, packStatus_of_statusFrom (fmode.trans tmode) (statusFrom_finish status), fmode.trans tmode, ?_,
    fun m r hr => (view_finish t true m hr).trans (views m r hr), ?_⟩
  · rw [pc_finish_passed (tpassed.trans passed), target, alignHalf_sub_width even, State.width, thumb,
      BitVec.sub_add_cancel]
  · obtain ⟨bytes, arm, thumbCache⟩ := memory
    obtain ⟨fbytes, farm, fthumbCache⟩ := fmemory
    exact ⟨fun a => (fbytes a).trans (bytes a), farm.trans arm, fthumbCache.trans thumbCache⟩

/-! ### Reset (R481) -/

theorem reg_resetAt (entry : Word) (mem : List Host.Cell) (log : List Word) (r : Reg) :
    (State.resetAt entry mem log).reg r = if r = Reg.pc then entry + 4#32 else 0#32 := by
  have file : State.resetAt entry mem log =
      { State.resetAt entry mem log with x := Vector.replicate 16 0#32 }.setReg Reg.pc (entry + 4#32) := rfl
  rw [file, State.reg_setReg]
  split
  · rfl
  · exact Vector.getElem_replicate _

theorem extractLsb'_zero_two_of_aligned {a : Word} (h : a &&& 3#32 = 0#32) : a.extractLsb' 0 2 = 0#2 := by
  apply BitVec.eq_of_toNat_eq
  rw [BitVec.extractLsb'_toNat, Nat.shiftRight_zero]
  exact mod_four_of_aligned h

theorem packStatus_resetAt (entry : Word) (mem : List Host.Cell) (log : List Word) :
    (State.resetAt entry mem log).packStatus = 0x000000D3#32 := by
  show (bit1 false ++ bit1 false ++ bit1 false ++ bit1 false ++ 0#20 ++ bit1 true ++ bit1 true ++ bit1 false ++
    Mode.svc.bits : BitVec 32) = _
  decide

/-- Settles O33: every field is the reset state's own, and the event is the procedure on a live and on a faulted machine. -/
theorem resetProcedure : Obligations.ResetProcedure := by
  intro s entry aligned
  have answer : s.resetTo entry = .next (State.resetAt entry s.mem s.log) :=
    if_pos (extractLsb'_zero_two_of_aligned aligned)
  refine ⟨State.resetAt entry s.mem s.log, answer, fun r hr => (reg_resetAt entry _ _ r).trans (if_neg hr),
    (reg_resetAt entry _ _ Reg.pc).trans (if_pos rfl), ?_, ?_, rfl, rfl, rfl, rfl, rfl, rfl, rfl, rfl, rfl, rfl, rfl, rfl,
    rfl, packStatus_resetAt entry _ _, rfl, rfl, answer, ?_⟩
  · intro b; cases b <;> rfl
  · have zeros : #v[0#32, 0#32, 0#32, 0#32, 0#32] = Vector.replicate 5 0#32 := rfl
    intro b k
    cases b <;> exact (congrArg (·[k]) zeros).trans (Vector.getElem_replicate _)
  · intro f rest left
    rw [Result.reactAll, Result.react_fault, reactFaulted, left, answer]
    rfl

end Sys2Proof.Proofs
end

section
/-!
PROOF. Status transfer and the coprocessor classes (spec/47_arm_system.md): MRS, the two fields of MSR to the current status,
MSR to the saved status, and that a coprocessor word encodes back to itself, so the word logged is the word fetched.
-/

namespace Sys2Proof.Proofs

open Sys2Proof.Machine Sys2Proof.Claims

/-! ### MRS (R315) -/

theorem moveFromStatus_of_saved {f : MrsForm} {s : State} (h : f.r = true → s.mode ≠ .usr ∧ s.mode ≠ .sys) :
    moveFromStatus f s = .next (s.setReg f.rd (if f.r then s.spsr else s.packStatus)) := by
  rw [moveFromStatus]
  split
  · next saved =>
    obtain ⟨husr, hsys⟩ := h saved
    rw [if_pos (hasSpsr_of_privileged husr hsys)]
  · rfl

/-- Settles O51: one write of Rd after the fetch charge. -/
theorem moveFromStatus : Obligations.MoveFromStatus := by
  intro f s holds saved
  exact ⟨_, (prologue_of_holds holds _).trans (moveFromStatus_of_saved saved), State.reg_setReg_same _ _ _,
    fun q hq => State.reg_setReg_ne _ _ hq, frame_fetched s _⟩

/-! ### MSR to the current status (R318, R320) -/

/-- What a row of MSR runs when its condition passes: the fetch charge does not move its operand. -/
theorem exec_msrRow_of_holds {i : Instr} {c : Cond} {r : Bool} {mask : FieldMask} {op : State → Word} {s : State}
    (row : MsrRow i c r mask op) (holds : Holds s c) : exec i s = moveToStatus r mask (op s) s.fetchCost := by
  cases row with
  | reg f => exact prologue_of_holds holds fun u => moveToStatus f.r f.mask (u.reg f.rm) u
  | imm f => exact prologue_of_holds holds fun u => moveToStatus f.r f.mask (rotatedImmediate f.rot f.imm8) u

/-- The control field is written outside User mode, where the mask selects it. -/
theorem writesControlField_iff (mask : FieldMask) (m : Mode) :
    (mask.c && m != .usr) = true ↔ mask.c = true ∧ m ≠ .usr := by
  rw [Bool.and_eq_true, bne_iff_ne]

theorem switchMode_of_mode {s : State} {m : Mode} {b : BitVec 5} (h : modeNumber m = b) :
    s.switchMode b = some (s.switchModeTo m) := by
  rw [State.switchMode_eq, ← h, ofBits_modeNumber, Option.map_some]

/-- What writing the control field does: I, F and the mode where it applies; no flag, no T, and no register of any mode. -/
theorem writeControl_of_mode {s : State} {mask : FieldMask} {v : Word}
    (h : mask.c = true → s.mode ≠ .usr → ∃ m, modeNumber m = v.extractLsb' 0 5) :
    ∃ t, s.writeControl mask v = some t ∧
      (mask.c = true ∧ s.mode ≠ .usr →
        modeNumber t.mode = v.extractLsb' 0 5 ∧ t.i = v.getLsbD 7 ∧ t.f = v.getLsbD 6) ∧
      (¬ (mask.c = true ∧ s.mode ≠ .usr) → t = s) ∧ t.t = s.t ∧ SameFlags s t ∧
      SameViewsBut s t (fun _ _ => False) ∧ t.pc = s.pc ∧ SameMemory s t ∧ t.log = s.log ∧
      t.cycles = s.cycles ∧ t.fetchNonSeq = s.fetchNonSeq ∧ t.condPassed = s.condPassed := by
  by_cases applies : mask.c = true ∧ s.mode ≠ .usr
  · obtain ⟨m, hm⟩ := h applies.1 applies.2
    refine ⟨{ s.switchModeTo m with i := v.getLsbD 7, f := v.getLsbD 6 }, ?_,
      fun _ => ⟨(congrArg modeNumber (State.switchModeTo_mode s m)).trans hm, rfl, rfl⟩, fun no => absurd applies no,
      switchModeTo_t s m, sameFlags_switchModeTo s m,
      ⟨fun m' r _ => view_switchModeTo s m m' r, fun m' => viewSpsr_switchModeTo s m m'⟩, ?_, sameMemory_switchModeTo s m,
      switchModeTo_log s m, switchModeTo_cycles s m, switchModeTo_fetchNonSeq s m, switchModeTo_condPassed s m⟩
    · rw [State.writeControl, if_pos ((writesControlField_iff mask s.mode).2 applies), switchMode_of_mode hm]
      rfl
    · exact reg_switchModeTo_shared s m (r := Reg.pc) (by decide) (by decide) (by decide)
  · refine ⟨s, if_neg fun e => applies ((writesControlField_iff mask s.mode).1 e), fun e => absurd e applies, fun _ => rfl,
      rfl, ⟨rfl, rfl, rfl, rfl⟩, ⟨fun _ _ _ => rfl, fun _ => rfl⟩, rfl, ⟨fun _ => rfl, rfl, rfl⟩, rfl, rfl, rfl, rfl⟩

theorem writeFlagsField_eq (s : State) (mask : FieldMask) (v : Word) :
    s.writeFlagsField mask v =
      { s with n := (s.writeFlagsField mask v).n, z := (s.writeFlagsField mask v).z
               c := (s.writeFlagsField mask v).c, v := (s.writeFlagsField mask v).v } := by
  unfold State.writeFlagsField
  split <;> rfl

theorem flags_writeFlagsField {s t : State} (h : SameFlags s t) (mask : FieldMask) (v : Word) :
    let u := t.writeFlagsField mask v
    if mask.f then u.n = v.getLsbD 31 ∧ u.z = v.getLsbD 30 ∧ u.c = v.getLsbD 29 ∧ u.v = v.getLsbD 28
    else SameFlags s u := by
  simp only [State.writeFlagsField]
  split
  · exact ⟨rfl, rfl, rfl, rfl⟩
  · exact h

/-- Settles O52: the flags field follows the control field and touches the flags alone. -/
theorem moveToCurrentStatus : Obligations.MoveToCurrentStatus := by
  intro i c mask op s row holds legal
  obtain ⟨t, written, applied, skipped, thumb, flags, views, pc, memory, log, cycles, seq, passed⟩ :=
    writeControl_of_mode (s := s.fetchCost) legal
  have answer : exec i s = .next (t.writeFlagsField mask (op s)) := by
    rw [exec_msrRow_of_holds row holds, moveToStatus, if_neg Bool.false_ne_true, written]
  have fields := flags_writeFlagsField flags mask (op s)
  refine ⟨_, answer, ?_⟩
  rw [writeFlagsField_eq] at fields ⊢
  refine ⟨applied, fun no => ?_, thumb, fields, views, pc, memory, log, cycles.trans (fetchCost_cycles s), seq, passed⟩
  obtain rfl := skipped no
  exact ⟨rfl, rfl, rfl⟩

/-! ### MSR to the saved status (R319) -/

theorem getLsbD_savedStatusMask (mask : FieldMask) {k : Nat} (hk : k < 32) :
    (savedStatusMask mask).getLsbD k = true ↔ mask.f = true ∧ 28 ≤ k ∨ mask.c = true ∧ k ≤ 7 := by
  have high : ∀ j : Fin 32, (0xF0000000#32).getLsbD j = decide (28 ≤ j.val) := by decide
  have low : ∀ j : Fin 32, (0x000000FF#32).getLsbD j = decide (j.val ≤ 7) := by decide
  rw [savedStatusMask, BitVec.getLsbD_or, apply_ite (BitVec.getLsbD · k), apply_ite (BitVec.getLsbD · k),
    high ⟨k, hk⟩, low ⟨k, hk⟩]
  cases mask.f <;> cases mask.c <;> simp

/-- The bits a mask selects come from the operand, the others stay. -/
theorem getLsbD_masked (old new m : Word) {k : Nat} (hk : k < 32) :
    ((old &&& ~~~m) ||| (new &&& m)).getLsbD k = if m.getLsbD k = true then new.getLsbD k else old.getLsbD k := by
  simp only [BitVec.getLsbD_or, BitVec.getLsbD_and, BitVec.getLsbD_not, hk, decide_true, Bool.true_and]
  cases m.getLsbD k <;> simp

/-- Settles O53: in a mode with a saved status the write is a selection by the mask. -/
theorem moveToSavedStatus : Obligations.MoveToSavedStatus := by
  intro i c mask op s row holds
  refine ⟨fun none => ⟨s.fetchCost, ?_⟩, fun husr hsys => ?_⟩
  · have unsaved : s.fetchCost.mode.hasSpsr = false := by rcases none with h | h <;> exact congrArg Mode.hasSpsr h
    rw [exec_msrRow_of_holds row holds, moveToStatus, if_pos rfl, unsaved, if_neg Bool.false_ne_true]
  · have saved : s.fetchCost.mode.hasSpsr = true := hasSpsr_of_privileged husr hsys
    refine ⟨{ s.fetchCost with
        spsr := (s.spsr &&& ~~~savedStatusMask mask) ||| (op s &&& savedStatusMask mask) }, ?_, fun k hk => ?_,
      fun _ _ => rfl, ⟨rfl, rfl, rfl, rfl⟩, ⟨rfl, rfl, rfl, rfl⟩, rfl, rfl, ⟨fun _ => rfl, rfl, rfl⟩, rfl,
      charged_fetchCost s⟩
    · rw [exec_msrRow_of_holds row holds, moveToStatus, if_pos rfl, if_pos saved]
      rfl
    · rw [getLsbD_masked _ _ _ hk]
      simp only [getLsbD_savedStatusMask mask hk]

/-! ### Coprocessor words (R112) -/

theorem bits_condOf (w : Word) : (condOf w).bits = w.extractLsb' 28 4 := by
  have inverse : ∀ b : BitVec 4, (Cond.ofBits b).bits = b := by decide
  exact inverse _

theorem bit1_getLsbD (w : Word) (k : Nat) : bit1 (w.getLsbD k) = w.extractLsb' k 1 := by
  apply BitVec.eq_of_getLsbD_eq
  intro j hj
  obtain rfl : j = 0 := by omega
  cases h : w.getLsbD k <;> simp [bit1, h]

/-- Two neighbouring fields are one field. -/
theorem append_fields (w : Word) {hi lo m n : Nat} (h : hi = lo + m) :
    w.extractLsb' hi n ++ w.extractLsb' lo m = w.extractLsb' lo (n + m) := by
  subst h
  rw [BitVec.extractLsb'_append_extractLsb'_eq_extractLsb' rfl]

theorem encodeCdt_cdtOf {w : Word} (field : w.extractLsb' 25 3 = 0b110#3) : encodeCdt (w.getLsbD 20) (cdtOf w) = w := by
  simp only [encodeCdt, cdtOf, regAt, bits_condOf, bit1_getLsbD, ← field, append_fields]
  exact BitVec.extractLsb'_eq_self

theorem encodeCdo_cdoOf {w : Word} (field : w.extractLsb' 24 4 = 0b1110#4) (bit4 : w.extractLsb' 4 1 = 0#1) :
    encodeCdo (cdoOf w) = w := by
  simp only [encodeCdo, cdoOf, bits_condOf, ← field, ← bit4, append_fields]
  exact BitVec.extractLsb'_eq_self

theorem encodeCrt_crtOf {w : Word} (field : w.extractLsb' 24 4 = 0b1110#4) (bit4 : w.extractLsb' 4 1 = 1#1) :
    encodeCrt (w.getLsbD 20) (crtOf w) = w := by
  simp only [encodeCrt, crtOf, regAt, bits_condOf, bit1_getLsbD, ← field, ← bit4, append_fields]
  exact BitVec.extractLsb'_eq_self

theorem decodeExtension_not_coprocessor {w : Word} {i : Instr} (h : decodeExtension w = some i) : ¬ CoprocessorRow i := by
  unfold decodeExtension at h
  repeat' split at h
  all_goals cases h
  all_goals nofun

theorem decodePsr_not_coprocessor {w : Word} {i : Instr} (h : decodePsr w = some i) : ¬ CoprocessorRow i := by
  unfold decodePsr at h
  repeat' split at h
  all_goals cases h
  all_goals nofun

theorem decodeDataProcessing_not_coprocessor (w : Word) : ¬ CoprocessorRow (decodeDataProcessing w) := by
  have imm (op : DpOp) (f : DpImm) : ¬ CoprocessorRow (dpImmInstr op f) := by cases op <;> nofun
  have regImm (op : DpOp) (f : DpRegImm) : ¬ CoprocessorRow (dpRegImmInstr op f) := by cases op <;> nofun
  have regReg (op : DpOp) (f : DpRegReg) : ¬ CoprocessorRow (dpRegRegInstr op f) := by cases op <;> nofun
  simp only [decodeDataProcessing]
  split
  · exact imm _ _
  · split
    · exact regReg _ _
    · exact regImm _ _

theorem decodeSdtImm_not_coprocessor (w : Word) : ¬ CoprocessorRow (decodeSdtImm w) := by
  unfold decodeSdtImm
  repeat' split
  all_goals nofun

theorem decodeSdtReg_not_coprocessor (w : Word) : ¬ CoprocessorRow (decodeSdtReg w) := by
  unfold decodeSdtReg
  repeat' split
  all_goals nofun

/-- A field of a field. -/
theorem extractLsb'_field (w : Word) {lo n k m : Nat} (h : k + m ≤ n) :
    (w.extractLsb' lo n).extractLsb' k m = w.extractLsb' (lo + k) m := by
  refine BitVec.eq_of_getLsbD_eq fun j hj => ?_
  have inside : k + j < n := by omega
  simp only [BitVec.getLsbD_extractLsb', hj, inside, decide_true, Bool.true_and, Nat.add_assoc]

/-- The 4-bit class field left when all others of R103 are excluded. -/
theorem coprocessor_class {w : Word} (h00 : w.extractLsb' 26 2 ≠ 0b00#2) (h01 : w.extractLsb' 26 2 ≠ 0b01#2)
    (h100 : w.extractLsb' 25 3 ≠ 0b100#3) (h101 : w.extractLsb' 25 3 ≠ 0b101#3) (h110 : w.extractLsb' 25 3 ≠ 0b110#3)
    (h1111 : w.extractLsb' 24 4 ≠ 0b1111#4) : w.extractLsb' 24 4 = 0b1110#4 := by
  rw [← extractLsb'_field w (lo := 24) (n := 4) (k := 2) (m := 2) (by decide)] at h00 h01
  rw [← extractLsb'_field w (lo := 24) (n := 4) (k := 1) (m := 3) (by decide)] at h100 h101 h110
  have classes : ∀ b : BitVec 4, b.extractLsb' 2 2 = 0b00#2 ∨ b.extractLsb' 2 2 = 0b01#2 ∨ b.extractLsb' 1 3 = 0b100#3 ∨
      b.extractLsb' 1 3 = 0b101#3 ∨ b.extractLsb' 1 3 = 0b110#3 ∨ b = 0b1111#4 ∨ b = 0b1110#4 := by decide
  have one := classes (w.extractLsb' 24 4)
  simpa only [h00, h01, h100, h101, h110, h1111, false_or] using one

theorem encode_of_decodeArm_coprocessor {w : Word} {i : Instr} (h : decodeArm w = some i) (row : CoprocessorRow i) :
    (encode i).word = w := by
  unfold decodeArm at h
  split at h
  · cases h
  split at h
  · cases h; nomatch row
  split at h
  · split at h
    · exact absurd row (decodeExtension_not_coprocessor h)
    · split at h
      · exact absurd row (decodePsr_not_coprocessor h)
      · cases h; exact absurd row (decodeDataProcessing_not_coprocessor w)
  next h00 =>
  split at h
  · split at h
    · cases h; exact absurd row (decodeSdtImm_not_coprocessor w)
    · split at h
      · cases h
      · cases h; exact absurd row (decodeSdtReg_not_coprocessor w)
  next h01 =>
  split at h
  · split at h <;> cases h <;> nomatch row
  next h100 =>
  split at h
  · split at h <;> cases h <;> nomatch row
  next h101 =>
  split at h
  · next h110 =>
    have dataTransfer := encodeCdt_cdtOf (beq_iff_eq.1 h110)
    split at h
    · next load => cases h; rwa [load] at dataTransfer
    · next store => cases h; rwa [Bool.eq_false_of_not_eq_true store] at dataTransfer
  next h110 =>
  split at h
  · cases h; nomatch row
  next h1111 =>
  simp only [beq_iff_eq] at h00 h01 h100 h101 h110 h1111
  have field := coprocessor_class h00 h01 h100 h101 h110 h1111
  split at h
  · next clear =>
    cases h
    exact encodeCdo_cdoOf field ((bit1_getLsbD w 4).symm.trans (congrArg bit1 (Bool.not_eq_true' _ ▸ clear)))
  next set =>
  have transfer := encodeCrt_crtOf field
    ((bit1_getLsbD w 4).symm.trans (congrArg bit1 (by simpa using set)))
  split at h
  · next toArm => cases h; rwa [toArm] at transfer
  · next fromArm => cases h; rwa [Bool.eq_false_of_not_eq_true fromArm] at transfer

/-- A coprocessor instruction whose condition passes logs its own encoding after the fetch charge. -/
theorem exec_coprocessorRow_of_holds {i : Instr} {c : Cond} {s : State} (row : CoprocessorRow i)
    (hc : condition i = some c) (holds : Holds s c) :
    exec i s = .next (s.fetchCost.logUnimplemented (encode i).word) := by
  have logs {c : Cond} (holds : Holds s c) (w : Word) :
      s.prologue c (fun u => .next (u.logUnimplemented w)) = .next (s.fetchCost.logUnimplemented w) :=
    prologue_of_holds holds _
  cases row <;> cases hc <;> exact logs holds _

/-- Settles O54: the encoding logged is the word that was decoded. -/
theorem coprocessorIsLogged : Obligations.CoprocessorIsLogged := by
  intro w i c s decoded row hc holds
  have answer := exec_coprocessorRow_of_holds row hc holds
  rw [encode_of_decodeArm_coprocessor decoded row] at answer
  exact ⟨_, answer, rfl, fun _ _ => rfl, ⟨rfl, rfl, rfl, rfl⟩, ⟨rfl, rfl, rfl, rfl⟩, ⟨rfl, rfl, rfl⟩,
    ⟨fun _ => rfl, rfl, rfl⟩, charged_fetchCost s⟩

end Sys2Proof.Proofs
end

section
/-!
PROOF. The 16-bit arithmetic, logic and register writes (spec/48_thumb_alu.md formats 1 to 5, 12 and 13): every arithmetic row
is the computation of its data-processing operation, and every move is one register write after the fetch charge.
-/

namespace Sys2Proof.Proofs

open Sys2Proof.Machine Sys2Proof.Claims

/-! ### Formats 1 to 5 (R336 to R365, R372) -/

/-- The state data processing of two operands leaves: `k` cycles charged, Rd written unless the operation is a test, and the
flags of the result set. -/
def computed (s : State) (op : DpOp) (rd : Reg) (r : AluResult) (shifterCarry : Bool) (k : Nat) : State :=
  let u := s.fetchCost.internalCycles k
  (if isTest op then u else u.setReg rd r.value).setFlags op r shifterCarry

/-- What a row of the 16-bit arithmetic answers. -/
theorem exec_thumbDpRow {i : Instr} {op : DpOp} {rd : Reg} {a b : State → Word} {shc : State → Bool} {k : Nat} (s : State)
    (row : ThumbDpRow i op rd a b shc k) :
    exec i s = .next (computed s op rd (dpCompute op (a s) (b s) s.c) (shc s) k) := by
  cases row with
  | lslReg f | lsrReg f | asrReg f | ror f =>
    simp only [← toNat_lowByte]
    rfl
  | lslImm f | lsrImm f | asrImm f | addReg f | subReg f | addImm3 f | subImm3 f | movImm8 f | cmpImm8 f | addImm8 f
  | subImm8 f | and f | eor f | adc f | sbc f | tst f | neg f | cmpReg f | cmn f | orr f | bic f | mvn f | cmpHi f =>
    rfl

theorem reg_computed (s : State) (op : DpOp) (rd : Reg) (r : AluResult) (shifterCarry : Bool) (k : Nat) (q : Reg) :
    (computed s op rd r shifterCarry k).reg q = if isTest op = false ∧ q = rd then r.value else s.reg q := by
  rw [computed, State.reg_setFlags]
  cases isTest op with
  | true => rfl
  | false =>
    rw [if_neg Bool.false_ne_true, State.reg_setReg]
    simp only [true_and]
    rfl

/-- Settles O55: the result, the flags and the frame of `computed`. -/
theorem thumbArithmetic : Obligations.ThumbArithmetic := by
  intro i op rd a b shc k s row
  let r := dpCompute op (a s) (b s) s.c
  have regs (q : Reg) := reg_computed s op rd r (shc s) k q
  have keepsV : (if isTest op then s.fetchCost.internalCycles k
      else (s.fetchCost.internalCycles k).setReg rd r.value).v = s.v := by split <;> rfl
  have frame : let u := if isTest op then s.fetchCost.internalCycles k
        else (s.fetchCost.internalCycles k).setReg rd r.value
      SameFlags s u ∧ SameRest s u ∧ SameMemory s u ∧ Charged s u k false := by
    split
    · exact frame_multiplier s s.x k
    · exact frame_multiplier s _ k
  obtain ⟨-, rest, memory, charged⟩ := frame
  refine ⟨_, exec_thumbDpRow s row, ?_, dpFlags_setFlags keepsV op (a s) (b s) (shc s), sameRest_setFlags _ _ _ rest,
    sameMemory_setFlags _ _ _ memory, charged_setFlags _ _ _ charged⟩
  cases test : isTest op with
  | true => exact fun q _ => (regs q).trans (if_neg fun ⟨writes, _⟩ => by rw [test] at writes; nomatch writes)
  | false =>
    refine ⟨(regs rd).trans ((if_pos ⟨test, rfl⟩).trans (dpCompute_value op (a s) (b s) s.c)), fun q hq => ?_⟩
    exact (regs q).trans (if_neg fun ⟨_, e⟩ => hq e)

/-! ### Register writes that touch no flag (R371, R373, R376 to R379) -/

/-- An unsigned field, shifted (R125, R130 to R132). -/
theorem setWidth_shiftLeft_eq_ofNat {w : Nat} (field : BitVec w) (k : Nat) :
    field.setWidth 32 <<< k = BitVec.ofNat 32 (2 ^ k * field.toNat) := by
  apply BitVec.eq_of_toNat_eq
  rw [BitVec.toNat_shiftLeft, BitVec.toNat_setWidth, BitVec.toNat_ofNat, Nat.shiftLeft_eq, Nat.mod_mul_mod, Nat.mul_comm]

theorem wordOffset_eq_ofNat {w : Nat} (field : BitVec w) :
    field.setWidth 32 <<< 2 = BitVec.ofNat 32 (4 * field.toNat) := setWidth_shiftLeft_eq_ofNat field 2

theorem halfOffset_eq_ofNat {w : Nat} (field : BitVec w) :
    field.setWidth 32 <<< 1 = BitVec.ofNat 32 (2 * field.toNat) := setWidth_shiftLeft_eq_ofNat field 1

/-- What a row of the 16-bit moves answers. -/
theorem exec_thumbMoveRow {i : Instr} {rd : Reg} {v : State → Word} (s : State) (row : ThumbMoveRow i rd v) :
    exec i s = .next (s.fetchCost.setReg rd (v s)) := by
  cases row with
  | addHi f | movHi f => rfl
  | addPc f | addSp f | addSpImm7 w | subSpImm7 w =>
    simp only [← wordOffset_eq_ofNat]
    rfl

/-- Settles O56: one register write after the fetch charge. -/
theorem thumbMoves : Obligations.ThumbMoves := by
  intro i rd v s row
  exact ⟨_, exec_thumbMoveRow s row, State.reg_setReg_same _ _ _, fun q hq => State.reg_setReg_ne _ _ hq,
    frame_fetched s _⟩

end Sys2Proof.Proofs
end

section
/-!
PROOF. The 16-bit single transfers (spec/49_thumb_memory_branch.md formats 6 to 11): the loads and stores of the 32-bit encoding
at an address that nothing is written back to (R390).
-/

namespace Sys2Proof.Proofs

open Sys2Proof.Machine Sys2Proof.Claims

/-! ### Loads (R391 to R412) -/

/-- What a row of the 16-bit loads answers. -/
theorem exec_thumbLoadRow {i : Instr} {k : LoadKind} {rd : Reg} {a : State → Word} (s : State)
    (row : ThumbLoadRow i k rd a) : exec i s = .next (s.fetchCost.loadSingle k (plainAddress (a s)) rd rd) := by
  cases row with
  | ldrReg f | ldrbReg f | ldsb f | ldrhReg f | ldsh f => rfl
  | ldrbImm f =>
    rw [BitVec.ofNat_toNat]
    rfl
  | ldrhImm f =>
    simp only [← halfOffset_eq_ofNat]
    rfl
  | ldrPc f | ldrImm f | ldrSp f =>
    simp only [← wordOffset_eq_ofNat]
    rfl

/-- Settles O57: a load without write-back. -/
theorem thumbLoads : Obligations.ThumbLoads := by
  intro i k rd a s row
  refine ⟨_, exec_thumbLoadRow s row, ?_, fun q hq => ?_, frame_loadSingle s k (plainAddress (a s)) rd rd⟩
  · rw [State.reg_loadSingle, if_pos rfl, memRead_fetchCost]
    rfl
  · rw [State.reg_loadSingle, if_neg hq, if_neg fun ⟨_, base⟩ => hq base, State.reg_fetchCost]

/-! ### Stores (R393 to R411) -/

/-- What a row of the 16-bit stores answers. -/
theorem exec_thumbStoreRow {i : Instr} {w : Width} {rd : Reg} {a : State → Word} (s : State)
    (row : ThumbStoreRow i w rd a) :
    exec i s = .next (s.fetchCost.storeSingle w (plainAddress (a s)) rd (s.reg rd)) := by
  cases row with
  | strReg f | strbReg f | strhReg f => rfl
  | strbImm f =>
    rw [BitVec.ofNat_toNat]
    rfl
  | strhImm f =>
    simp only [← halfOffset_eq_ofNat]
    rfl
  | strImm f | strSp f =>
    simp only [← wordOffset_eq_ofNat]
    rfl

/-- Settles O58: a store without write-back. -/
theorem thumbStores : Obligations.ThumbStores := by
  intro i w rd a s row
  obtain ⟨stores, unchanged⟩ := frame_storeSingle s w (plainAddress (a s)) rd (s.reg rd)
  refine ⟨_, exec_thumbStoreRow s row, stores, fun q _ => ?_, unchanged⟩
  rw [State.reg_storeSingle, if_neg (fun ⟨wback, _⟩ => nomatch wback), State.reg_fetchCost]

end Sys2Proof.Proofs
end

section
/-!
PROOF. The 16-bit block transfers (spec/49_thumb_memory_branch.md R414 to R420): each is the block transfer of the 32-bit
encoding of the same registers with write-back, so its statement follows from that of LDM or STM.
-/

namespace Sys2Proof.Proofs

open Sys2Proof.Machine Sys2Proof.Claims

/-! ### Register lists (R414) -/

theorem zero_append_eq_setWidth (l : BitVec 8) : 0#8 ++ l = l.setWidth 16 := by
  apply BitVec.eq_of_getLsbD_eq
  intro k hk
  simp only [BitVec.getLsbD_append, BitVec.getLsbD_setWidth, BitVec.getLsbD_zero, hk, decide_true, Bool.true_and]
  split
  · rfl
  · rw [BitVec.getLsbD_of_ge l k (by omega)]

/-- A list of the low registers and one more is the low list and that register's bit. -/
theorem high_append_eq_or (hi : BitVec 8) (l : BitVec 8) : hi ++ l = (hi ++ 0#8) ||| l.setWidth 16 := by
  rw [← zero_append_eq_setWidth, BitVec.or_append, BitVec.or_zero, BitVec.zero_or]

theorem pushList_eq (f : TPushPop) : pushList f = (if f.r then 0x4000#16 else 0#16) ||| f.rlist.setWidth 16 := by
  have top : (0#1 ++ bit1 f.r ++ 0#6 : BitVec 8) ++ 0#8 = if f.r then 0x4000#16 else 0#16 := by cases f.r <;> rfl
  rw [← top]
  exact high_append_eq_or _ f.rlist

theorem popList_eq (f : TPushPop) : popList f = (if f.r then 0x8000#16 else 0#16) ||| f.rlist.setWidth 16 := by
  have top : (bit1 f.r ++ 0#7 : BitVec 8) ++ 0#8 = if f.r then 0x8000#16 else 0#16 := by cases f.r <;> rfl
  rw [← top]
  exact high_append_eq_or _ f.rlist

theorem lowList_eq (f : TBlock) : lowList f = f.rlist.setWidth 16 := zero_append_eq_setWidth f.rlist

theorem append_eq_zero_iff (hi lo : BitVec 8) : hi ++ lo = 0#16 ↔ hi = 0#8 ∧ lo = 0#8 := by
  refine ⟨fun h => ⟨?_, ?_⟩, ?_⟩
  · exact BitVec.extractLsb'_append_eq_left.symm.trans (congrArg (BitVec.extractLsb' 8 8) h)
  · exact BitVec.extractLsb'_append_eq_right.symm.trans (congrArg (BitVec.extractLsb' 0 8) h)
  · rintro ⟨rfl, rfl⟩
    rfl

theorem pushList_eq_zero_iff (f : TPushPop) : pushList f = 0#16 ↔ f.rlist = 0#8 ∧ f.r = false := by
  have top : (0#1 ++ bit1 f.r ++ 0#6 : BitVec 8) = 0#8 ↔ f.r = false := by cases f.r <;> decide
  exact (append_eq_zero_iff _ f.rlist).trans (by rw [top, and_comm])

theorem popList_eq_zero_iff (f : TPushPop) : popList f = 0#16 ↔ f.rlist = 0#8 ∧ f.r = false := by
  have top : (bit1 f.r ++ 0#7 : BitVec 8) = 0#8 ↔ f.r = false := by cases f.r <;> decide
  exact (append_eq_zero_iff _ f.rlist).trans (by rw [top, and_comm])

theorem lowList_eq_zero_iff (f : TBlock) : lowList f = 0#16 ↔ f.rlist = 0#8 :=
  (append_eq_zero_iff 0#8 f.rlist).trans (by simp)

/-- Bit `k` of a list at or above bit 8 is that of its upper half. -/
theorem inList_append_high {hi lo : BitVec 8} {r : Reg} (h : 8 ≤ r.toNat) :
    InList (hi ++ lo) r ↔ hi.getLsbD (r.toNat - 8) = true := by
  rw [InList, BitVec.getLsbD_append, if_neg (Nat.not_lt.2 h)]

theorem not_inList_pushList (f : TPushPop) {r : Reg} (h : r = Reg.sp ∨ r = Reg.pc) : ¬ InList (pushList f) r := by
  intro listed
  have high := (inList_append_high (by rcases h with rfl | rfl <;> decide)).1 listed
  revert high
  rcases h with rfl | rfl <;> cases f.r <;> decide

theorem not_inList_popList_sp (f : TPushPop) : ¬ InList (popList f) Reg.sp := by
  intro listed
  have high := (inList_append_high (by decide)).1 listed
  revert high
  cases f.r <;> decide

theorem popList_pc (f : TPushPop) : (popList f).getLsbD 15 = f.r := by
  have high : (popList f).getLsbD 15 = (bit1 f.r ++ 0#7 : BitVec 8).getLsbD 7 := BitVec.getLsbD_append
  rw [high]
  cases f.r <;> rfl

theorem not_inList_lowList_pc (f : TBlock) : ¬ InList (lowList f) Reg.pc := by
  intro listed
  have high := (inList_append_high (by decide)).1 listed
  exact absurd high (by decide)

/-! ### The 32-bit block transfers they are -/

/-- PUSH is STMDB of R13 with write-back (R416). -/
def pushForm (f : TPushPop) : BdtForm := ⟨.al, true, false, false, true, Reg.sp, pushList f⟩

/-- POP is LDMIA of R13 with write-back (R417). -/
def popForm (f : TPushPop) : BdtForm := ⟨.al, false, true, false, true, Reg.sp, popList f⟩

/-- The 16-bit STMIA and LDMIA are the 32-bit ones with write-back (R419, R420). -/
def lowForm (f : TBlock) : BdtForm := ⟨.al, false, true, false, true, f.rb, lowList f⟩

/-- R13 is not among PUSH's registers, so the words STM stores are the registers. -/
theorem storedValue_pushForm (f : TPushPop) (s : State) {r : Reg} (listed : InList (pushList f) r) :
    storedValue (pushForm f) s r = s.reg r := by
  have notSp : r ≠ Reg.sp := by rintro rfl; exact not_inList_pushList f (.inl rfl) listed
  have notPc : r ≠ Reg.pc := by rintro rfl; exact not_inList_pushList f (.inr rfl) listed
  exact (if_neg fun ⟨e, _⟩ => notSp e).trans ((if_neg notPc).trans (if_neg Bool.false_ne_true))

theorem storedWords_pushForm (f : TPushPop) (s : State) :
    storedWords (pushForm f) s (blockNewBase false (s.reg Reg.sp) (pushList f)) = (registersOf (pushList f)).map s.reg := by
  rw [blockNewBase_eq]
  exact (storedWords_eq_map (pushForm f) s).trans
    (List.map_congr_left fun r hr => storedValue_pushForm f s ((mem_registersOf _ r).1 hr))

/-- R15 is not among STMIA's registers: a register is stored as it is, the base as its new value unless it comes first. -/
theorem storedWords_lowForm (f : TBlock) (s : State) (newbase : Word) :
    storedWords (lowForm f) s newbase = thumbStoredWords f s newbase := by
  have word (first : Bool) {r : Reg} (listed : r ∈ registersOf (lowList f)) :
      storedWord (lowForm f) s newbase first r = if r = f.rb && true && !first then newbase else s.reg r := by
    have notPc : r ≠ Reg.pc := by
      rintro rfl
      exact not_inList_lowList_pc f ((mem_registersOf _ _).1 listed)
    rw [storedWord, if_neg notPc]
    rfl
  have list : (lowForm f).rlist = lowList f := rfl
  rw [storedWords, thumbStoredWords, list]
  cases e : registersOf (lowList f) with
  | nil => rfl
  | cons r rest =>
    rw [e] at word
    refine congrArg₂ List.cons ?_ (List.map_congr_left fun q hq => ?_)
    · rw [word true List.mem_cons_self]
      simp
    · rw [word false (List.mem_cons_of_mem _ hq)]
      simp

theorem exec_tPush_eq_stm (f : TPushPop) (s : State) : exec (.tPush f) s = exec (.stm (pushForm f)) s := by
  show push f s.fetchCost = (s.prologue .al fun u => Machine.storeMultiple (pushForm f) u)
  rw [prologue_of_holds (c := .al) trivial]
  simp only [push, ← storedWords_pushForm]
  rfl

theorem exec_tStmia_eq_stm (f : TBlock) (s : State) : exec (.tStmia f) s = exec (.stm (lowForm f)) s := by
  show thumbStoreMultiple f s.fetchCost = (s.prologue .al fun u => Machine.storeMultiple (lowForm f) u)
  rw [prologue_of_holds (c := .al) trivial]
  simp only [thumbStoreMultiple, Machine.storeMultiple, storedWords_lowForm]
  rfl

theorem exec_tLdmia_eq_ldm (f : TBlock) (s : State) : exec (.tLdmia f) s = exec (.ldm (lowForm f)) s := by
  have noPc : (lowList f).getLsbD 15 = false := Bool.eq_false_of_not_eq_true (not_inList_lowList_pc f)
  show thumbLoadMultiple f s.fetchCost = (s.prologue .al fun u => Machine.loadMultiple (lowForm f) u)
  rw [prologue_of_holds (c := .al) trivial]
  simp only [thumbLoadMultiple, Machine.loadMultiple, lowForm, noPc]
  rfl

/-- Writes of two registers commute. -/
theorem setReg_comm (s : State) {r q : Reg} (v w : Word) (h : r ≠ q) :
    (s.setReg r v).setReg q w = (s.setReg q w).setReg r v := by
  have number : r.toNat ≠ q.toNat := fun e => h (BitVec.eq_of_toNat_eq e)
  simp only [State.setReg]
  rw [Vector.set_comm _ _ number]

/-- A register that is not loaded may be written before the loads or after them. -/
theorem writeLoaded_setReg (s : State) {r : Reg} (v : Word) (data : List (Reg × Word)) (h : ∀ d ∈ data, d.1 ≠ r) :
    (s.setReg r v).writeLoaded data false = (s.writeLoaded data false).setReg r v := by
  induction data generalizing s with
  | nil => rfl
  | cons d rest ih =>
    have one : (s.setReg r v).writeLoadedOne false d = (s.writeLoadedOne false d).setReg r v := by
      simp only [State.writeLoadedOne]
      split
      · rfl
      · exact setReg_comm s v d.2 (h d List.mem_cons_self).symm
    rw [State.writeLoaded, one, ih _ fun e he => h e (List.mem_cons_of_mem _ he), State.writeLoaded]

/-- POP moves R13 after its loads and LDM before them: R13 is not among POP's registers. -/
theorem exec_tPop_eq_ldm (f : TPushPop) (s : State) : exec (.tPop f) s = exec (.ldm (popForm f)) s := by
  have unlisted (u : State) (a : Word) : ∀ d ∈ u.blockData a (registersOf (popList f)), d.1 ≠ Reg.sp := by
    intro d hd e
    have listed : d.1 ∈ registersOf (popList f) := by
      rw [← u.blockData_fst a (registersOf (popList f))]
      exact List.mem_map_of_mem hd
    exact not_inList_popList_sp f (e ▸ (mem_registersOf _ _).1 listed)
  show pop f s.fetchCost = (s.prologue .al fun u => Machine.loadMultiple (popForm f) u)
  rw [prologue_of_holds (c := .al) trivial]
  simp only [pop, Machine.loadMultiple, popForm, popList_pc]
  split
  · rfl
  · simp only [Bool.false_and, Bool.false_eq_true, if_false, if_true]
    rw [writeLoaded_setReg _ _ _ (unlisted _ _)]
    cases f.r with
    | true => exact congrArg (fun u => Host.Outcome.next (State.internalCycle u)) (setReg_comm _ _ _ (by decide))
    | false => rfl

/-- The value of STMIA's statement (R419) at a listed register. -/
theorem storedValue_lowForm (f : TBlock) (s : State) {r : Reg} (listed : InList (lowList f) r) :
    storedValue (lowForm f) s r =
      if r = f.rb ∧ rank (lowList f) r ≠ 0 then s.reg f.rb + BitVec.ofNat 32 (4 * listSize (lowList f)) else s.reg r := by
  have notPc : r ≠ Reg.pc := by rintro rfl; exact not_inList_lowList_pc f listed
  simp only [storedValue, if_neg notPc, lowForm, newBase, true_and, if_true, Bool.false_eq_true, if_false]

/-! ### The settled statements -/

theorem blockBytes_congr {start : Word} {l : BitVec 16} {value value' : Reg → Word}
    (h : ∀ r, InList l r → value r = value' r) : BlockBytes start l value = BlockBytes start l value' := by
  funext c b
  refine propext ⟨?_, ?_⟩
  · rintro ⟨r, listed, stored⟩
    exact ⟨r, listed, h r listed ▸ stored⟩
  · rintro ⟨r, listed, stored⟩
    exact ⟨r, listed, (h r listed).symm ▸ stored⟩

/-- Settles O59: STM with write-back, over registers that are neither R15 nor, for PUSH, the base. -/
theorem thumbBlockStores : Obligations.ThumbBlockStores := by
  refine fun s => ⟨fun f notEmpty => ?_, fun f notEmpty => ?_⟩
  · rw [← pushList_eq]
    have listed : pushList f ≠ 0#16 := fun e => notEmpty ((pushList_eq_zero_iff f).1 e)
    obtain ⟨t, run, stores, base, regs, frame⟩ := storeMultiple (pushForm f) s trivial listed
    refine ⟨t, (exec_tPush_eq_stm f s).trans run, ?_, base rfl, fun r hr => regs r fun ⟨_, e⟩ => hr e, frame⟩
    rwa [← blockBytes_congr fun r hr => storedValue_pushForm f s hr]
  · rw [← lowList_eq]
    have listed : lowList f ≠ 0#16 := fun e => notEmpty ((lowList_eq_zero_iff f).1 e)
    obtain ⟨t, run, stores, base, regs, frame⟩ := storeMultiple (lowForm f) s trivial listed
    refine ⟨t, (exec_tStmia_eq_stm f s).trans run, ?_, base rfl, fun r hr => regs r fun ⟨_, e⟩ => hr e, frame⟩
    rwa [← blockBytes_congr fun r hr => storedValue_lowForm f s hr]

/-- Settles O60: LDM with write-back. -/
theorem thumbBlockLoads : Obligations.ThumbBlockLoads := by
  refine fun s => ⟨fun f notEmpty => ?_, fun f notEmpty => ?_⟩
  · rw [← popList_eq]
    have listed : popList f ≠ 0#16 := fun e => notEmpty ((popList_eq_zero_iff f).1 e)
    obtain ⟨t, run, loaded, base, regs, frame⟩ := loadMultiple (popForm f) s trivial listed rfl
    exact ⟨t, (exec_tPop_eq_ldm f s).trans run, loaded, base rfl (not_inList_popList_sp f),
      fun r hr => regs r (hr ∘ Or.imp id And.right), frame⟩
  · rw [← lowList_eq]
    have listed : lowList f ≠ 0#16 := fun e => notEmpty ((lowList_eq_zero_iff f).1 e)
    obtain ⟨t, run, loaded, base, regs, frame⟩ := loadMultiple (lowForm f) s trivial listed rfl
    exact ⟨t, (exec_tLdmia_eq_ldm f s).trans run, loaded, base rfl, fun r hr => regs r (hr ∘ Or.imp id And.right), frame⟩

end Sys2Proof.Proofs
end

section
/-!
PROOF. The multiplier's early termination (spec/70_reset_and_hazards.md R506): the upper bits of a word are all zero or all one
exactly when its value is small, unsigned or signed.
-/

namespace Sys2Proof.Proofs

open Sys2Proof.Machine Sys2Proof.Claims

/-! ### Upper bits -/

theorem upper_toNat (v : Word) {lo n : Nat} (h : lo + n = 32) : (v.extractLsb' lo n).toNat = v.toNat / 2 ^ lo := by
  have small : v.toNat / 2 ^ lo < 2 ^ n := by
    rw [Nat.div_lt_iff_lt_mul (Nat.two_pow_pos lo), ← Nat.pow_add, Nat.add_comm, h]
    exact v.isLt
  rw [BitVec.extractLsb'_toNat, Nat.shiftRight_eq_div_pow, Nat.mod_eq_of_lt small]

theorem upper_eq_iff (v : Word) {lo n : Nat} (h : lo + n = 32) (ones : BitVec n) :
    (v.extractLsb' lo n == ones) = true ↔ v.toNat / 2 ^ lo = ones.toNat := by
  rw [beq_iff_eq, ← upper_toNat v h, BitVec.toNat_inj]

/-! ### The counts -/

theorem multiplierCyclesUnsigned_eq (v : Word) :
    multiplierCyclesUnsigned v =
      if v.toNat < 2 ^ 8 then 1 else if v.toNat < 2 ^ 16 then 2 else if v.toNat < 2 ^ 24 then 3 else 4 := by
  simp only [multiplierCyclesUnsigned, upper_eq_iff, BitVec.toNat_ofNat, Nat.zero_mod, Nat.div_eq_zero_iff,
    Nat.reducePow, OfNat.ofNat_ne_zero, false_or]

/-- The sign bits a signed value of at most `k` bits and a sign repeats are all alike. -/
theorem signed_small_iff (v : Word) :
    (v.toNat / 2 ^ 8 = 0 ∨ v.toNat / 2 ^ 8 = 2 ^ 24 - 1 ↔ -(2 ^ 8 : Int) ≤ v.toInt ∧ v.toInt < 2 ^ 8) ∧
    (v.toNat / 2 ^ 16 = 0 ∨ v.toNat / 2 ^ 16 = 2 ^ 16 - 1 ↔ -(2 ^ 16 : Int) ≤ v.toInt ∧ v.toInt < 2 ^ 16) ∧
    (v.toNat / 2 ^ 24 = 0 ∨ v.toNat / 2 ^ 24 = 2 ^ 8 - 1 ↔ -(2 ^ 24 : Int) ≤ v.toInt ∧ v.toInt < 2 ^ 24) := by
  have := v.isLt
  rw [BitVec.toInt_eq_toNat_cond]
  split <;> refine ⟨?_, ?_, ?_⟩ <;> omega

theorem multiplierCyclesSigned_eq (v : Word) :
    multiplierCyclesSigned v =
      if -(2 ^ 8 : Int) ≤ v.toInt ∧ v.toInt < 2 ^ 8 then 1
      else if -(2 ^ 16 : Int) ≤ v.toInt ∧ v.toInt < 2 ^ 16 then 2
      else if -(2 ^ 24 : Int) ≤ v.toInt ∧ v.toInt < 2 ^ 24 then 3 else 4 := by
  obtain ⟨byte, half, three⟩ := signed_small_iff v
  simp only [multiplierCyclesSigned, Bool.or_eq_true, upper_eq_iff, ← byte, ← half, ← three]
  rfl

/-- Settles O41: the first column that applies is the smallest size that holds the value. -/
theorem multiplierCycles : Obligations.MultiplierCycles := by
  intro v
  have unsigned := multiplierCyclesUnsigned_eq v
  have signed := multiplierCyclesSigned_eq v
  refine ⟨?_, ?_, ?_, ?_, fun k low high => ?_⟩
  iterate 2 · rw [signed]; split_ifs <;> omega
  iterate 2 · rw [unsigned]; split_ifs <;> omega
  rw [unsigned, signed]
  obtain rfl | rfl | rfl : k = 1 ∨ k = 2 ∨ k = 3 := by omega
  all_goals
    constructor
    · split_ifs <;> omega
    · split_ifs <;> omega

end Sys2Proof.Proofs
end

section
/-!
PROOF. The families of the instruction set: every one of the 176 instructions stands in a row of one of them, so a rule over all
instructions follows from what each family does.
-/

namespace Sys2Proof.Proofs

open Sys2Proof.Machine Sys2Proof.Claims

/-! ### The families -/

/-- An instruction by its family, with the row it stands in. -/
inductive Family : Instr → Prop where
  | dataProcessing {i op c set rn rd form} (row : DpRow i op c set rn rd form) : Family i
  | mrs (f : MrsForm) : Family (.mrs f)
  | msr {i c r mask op} (row : MsrRow i c r mask op) : Family i
  | multiply {i c set rd rm rs acc k} (row : MulRow i c set rd rm rs acc k) : Family i
  | multiplyLong {i f value k} (row : MulLongRow i f value k) : Family i
  | load {i k x} (row : LoadRow i k x) : Family i
  | store {i w x} (row : StoreRow i w x) : Family i
  | swp (f : SwpForm) : Family (.swp f)
  | swpb (f : SwpForm) : Family (.swpb f)
  | ldm (f : BdtForm) : Family (.ldm f)
  | stm (f : BdtForm) : Family (.stm f)
  | branch {i c o} (row : BranchRow i c o) : Family i
  | exchange {i c rm} (row : ExchangeRow i c rm) : Family i
  | bl (f : BranchForm) : Family (.bl f)
  | tBlHi (o : BitVec 11) : Family (.tBlHi o)
  | tBlLo (o : BitVec 11) : Family (.tBlLo o)
  | softwareInterrupt {i c} (row : SwiRow i c) : Family i
  | coprocessor {i} (row : CoprocessorRow i) : Family i
  | thumbArithmetic {i op rd a b shc k} (row : ThumbDpRow i op rd a b shc k) : Family i
  | thumbMove {i rd v} (row : ThumbMoveRow i rd v) : Family i
  | thumbLoad {i k rd a} (row : ThumbLoadRow i k rd a) : Family i
  | thumbStore {i w rd a} (row : ThumbStoreRow i w rd a) : Family i
  | tPush (f : TPushPop) : Family (.tPush f)
  | tPop (f : TPushPop) : Family (.tPop f)
  | tStmia (f : TBlock) : Family (.tStmia f)
  | tLdmia (f : TBlock) : Family (.tLdmia f)

/-- Every instruction is of a family. -/
theorem family (i : Instr) : Family i := by
  cases i with
  | andImm f | eorImm f | subImm f | rsbImm f | addImm f | adcImm f | sbcImm f | rscImm f | tstImm f | teqImm f
  | cmpImm f | cmnImm f | orrImm f | movImm f | bicImm f | mvnImm f =>
    exact .dataProcessing (dpRow_imm (f := f) rfl)
  | andRegImm f | eorRegImm f | subRegImm f | rsbRegImm f | addRegImm f | adcRegImm f | sbcRegImm f | rscRegImm f
  | tstRegImm f | teqRegImm f | cmpRegImm f | cmnRegImm f | orrRegImm f | movRegImm f | bicRegImm f | mvnRegImm f =>
    exact .dataProcessing (dpRow_regImm (f := f) rfl)
  | andRegReg f | eorRegReg f | subRegReg f | rsbRegReg f | addRegReg f | adcRegReg f | sbcRegReg f | rscRegReg f
  | tstRegReg f | teqRegReg f | cmpRegReg f | cmnRegReg f | orrRegReg f | movRegReg f | bicRegReg f | mvnRegReg f =>
    exact .dataProcessing (dpRow_regReg (f := f) rfl)
  | mrs f => exact .mrs f
  | msrReg f | msrImm f => exact .msr (by constructor)
  | mul f | mla f | tMul f => exact .multiply (by constructor)
  | umull f | umlal f | smull f | smlal f => exact .multiplyLong (by constructor)
  | swp f => exact .swp f
  | swpb f => exact .swpb f
  | ldrhReg f | ldrhImm f | ldrsbReg f | ldrsbImm f | ldrshReg f | ldrshImm f | ldrImmPre f | ldrImmPost f | ldrtImm f
  | ldrRegPre f | ldrRegPost f | ldrtReg f | ldrbImmPre f | ldrbImmPost f | ldrbtImm f | ldrbRegPre f | ldrbRegPost f
  | ldrbtReg f =>
    exact .load (by constructor)
  | strhReg f | strhImm f | strImmPre f | strImmPost f | strtImm f | strRegPre f | strRegPost f | strtReg f
  | strbImmPre f | strbImmPost f | strbtImm f | strbRegPre f | strbRegPost f | strbtReg f =>
    exact .store (by constructor)
  | ldm f => exact .ldm f
  | stm f => exact .stm f
  | b o | tBeq o | tBne o | tBcs o | tBcc o | tBmi o | tBpl o | tBvs o | tBvc o | tBhi o | tBls o | tBge o | tBlt o
  | tBgt o | tBle o | tB o =>
    exact .branch (by constructor)
  | bx f | tBx f => exact .exchange (by constructor)
  | bl f => exact .bl f
  | tBlHi o => exact .tBlHi o
  | tBlLo o => exact .tBlLo o
  | swi f | tSwi v => exact .softwareInterrupt (by constructor)
  | stc f | ldc f | cdp f | mcr f | mrc f => exact .coprocessor (by constructor)
  | tLslImm f | tLsrImm f | tAsrImm f | tAddReg f | tSubReg f | tAddImm3 f | tSubImm3 f | tMovImm8 f | tCmpImm8 f
  | tAddImm8 f | tSubImm8 f | tAnd f | tEor f | tLslReg f | tLsrReg f | tAsrReg f | tAdc f | tSbc f | tRor f | tTst f
  | tNeg f | tCmpReg f | tCmn f | tOrr f | tBic f | tMvn f | tCmpHi f =>
    exact .thumbArithmetic (by constructor)
  | tAddHi f | tMovHi f | tAddPc f | tAddSp f | tAddSpImm7 f | tSubSpImm7 f => exact .thumbMove (by constructor)
  | tLdrPc f | tLdrReg f | tLdrbReg f | tLdsb f | tLdrhReg f | tLdsh f | tLdrImm f | tLdrbImm f | tLdrhImm f
  | tLdrSp f =>
    exact .thumbLoad (by constructor)
  | tStrReg f | tStrbReg f | tStrhReg f | tStrImm f | tStrbImm f | tStrhImm f | tStrSp f =>
    exact .thumbStore (by constructor)
  | tPush f => exact .tPush f
  | tPop f => exact .tPop f
  | tStmia f => exact .tStmia f
  | tLdmia f => exact .tLdmia f

/-! ### The condition of each family -/

section
variable {i : Instr}

theorem condition_dpRow {op : DpOp} {c : Cond} {set : Bool} {rn rd : Reg} {form : Operand2}
    (row : DpRow i op c set rn rd form) : condition i = some c := by
  cases row <;> cases op <;> rfl

theorem condition_msrRow {c : Cond} {r : Bool} {mask : FieldMask} {op : State → Word} (row : MsrRow i c r mask op) :
    condition i = some c := by
  cases row <;> rfl

theorem condition_mulRow {c : Option Cond} {set : Bool} {rd rm rs : Reg} {acc : State → Nat} {k : Nat}
    (row : MulRow i c set rd rm rs acc k) : condition i = c := by
  cases row <;> rfl

theorem condition_mulLongRow {f : MulLong} {value : State → Int} {k : State → Nat} (row : MulLongRow i f value k) :
    condition i = some f.cond := by
  cases row <;> rfl

theorem condition_loadRow {k : LoadKind} {x : Transfer} (row : LoadRow i k x) : condition i = some x.cond := by
  cases row <;> rfl

theorem condition_storeRow {w : Width} {x : Transfer} (row : StoreRow i w x) : condition i = some x.cond := by
  cases row <;> rfl

theorem condition_branchRow {c : Option Cond} {o : Int} (row : BranchRow i c o) : condition i = c := by
  cases row <;> rfl

theorem condition_exchangeRow {c : Option Cond} {rm : Reg} (row : ExchangeRow i c rm) : condition i = c := by
  cases row <;> rfl

theorem condition_swiRow {c : Option Cond} (row : SwiRow i c) : condition i = c := by
  cases row <;> rfl

theorem exists_condition_coprocessorRow (row : CoprocessorRow i) : ∃ c, condition i = some c := by
  cases row <;> exact ⟨_, rfl⟩

theorem holdsOpt_of_passes {s : State} {c : Option Cond} (passes : Passes i s) (h : condition i = c) : HoldsOpt s c := by
  cases c with
  | none => trivial
  | some c => exact passes c h

/-- An instruction that does not pass charges its fetch and does nothing else (R156). -/
theorem exec_of_not_passes {s : State} (h : ¬ Passes i s) :
    ∃ t, exec i s = .next t ∧ SameRegsBut s t (fun _ => False) ∧ SameFlags s t ∧ SameRest s t ∧ SameMemory s t ∧
      t.cycles = s.cycles + fetchCharge s := by
  simp only [Passes, not_forall] at h
  obtain ⟨c, hc, fails⟩ := h
  obtain ⟨t, run, regs, flags, rest, memory, cycles, -⟩ := failedConditionDoesNothing i c s hc fails
  exact ⟨t, run, regs, flags, rest, memory, cycles⟩

end

/-! ### What can write the PC (R140) -/

/-- An instruction with an encoding whose write-PC flag is false does not count the PC among the registers it may write. -/
def SparesPc (i : Instr) (P : Reg → Prop) : Prop := i.wellFormed = true → i.writesPC = false → ¬ P Reg.pc

section
variable {i : Instr}

theorem sparesPc_nothing (i : Instr) : SparesPc i fun _ => False := fun _ _ => id

theorem sparesPc_of_writesPC {P : Reg → Prop} (h : i.writesPC = true) : SparesPc i P :=
  fun _ spares => nomatch h.symm.trans spares

/-- The flag of an instruction that writes one register. -/
theorem sparesPc_of_eq {rd : Reg} (h : i.writesPC = (rd == Reg.pc)) : SparesPc i (· = rd) := by
  rintro - spares rfl
  exact absurd (h.symm.trans spares) (by decide)

theorem sparesPc_of_isLow {rd : Reg} (h : i.wellFormed = true → Reg.isLow rd = true) : SparesPc i (· = rd) := by
  rintro encoded - rfl
  exact absurd (h encoded) (by decide)

theorem isLow_of_and {b : Bool} {r : Reg} (h : (b && Reg.isLow r) = true) : Reg.isLow r = true :=
  (Bool.and_eq_true_iff.1 h).2

theorem writesPC_dpRow {op : DpOp} {c : Cond} {set : Bool} {rn rd : Reg} {form : Operand2}
    (row : DpRow i op c set rn rd form) : i.writesPC = (!isTest op && rd == Reg.pc) := by
  cases row <;> cases op <;> rfl

theorem sparesPc_mulRow {c : Option Cond} {set : Bool} {rd rm rs : Reg} {acc : State → Nat} {k : Nat}
    (row : MulRow i c set rd rm rs acc k) : SparesPc i (· = rd) := by
  cases row with
  | mul f | mla f => exact sparesPc_of_eq rfl
  | tMul f => exact sparesPc_of_isLow isLow_of_and

theorem sparesPc_mulLongRow {f : MulLong} {value : State → Int} {k : State → Nat} (row : MulLongRow i f value k) :
    SparesPc i fun r => r = f.rdHi ∨ r = f.rdLo := by
  have flag : i.writesPC = (f.rdHi == Reg.pc || f.rdLo == Reg.pc) := by cases row <;> rfl
  rintro - spares (hi | lo)
  · simp [flag, ← hi] at spares
  · simp [flag, ← lo] at spares

/-- The base is written back exactly where the write-PC flag counts it. -/
theorem basePcWritten_iff (x : Transfer) : basePcWritten x.p x.w x.rn = true ↔ x.Wback ∧ Reg.pc = x.rn := by
  rw [basePcWritten, Bool.and_eq_true, Bool.or_eq_true, Bool.not_eq_true', beq_iff_eq, eq_comm (a := x.rn)]
  rfl

theorem sparesPc_loadRow {k : LoadKind} {x : Transfer} (row : LoadRow i k x) :
    SparesPc i fun r => r = x.rd ∨ (x.Wback ∧ r = x.rn) := by
  have flag : i.writesPC = (x.rd == Reg.pc || basePcWritten x.p x.w x.rn) := by cases row <;> rfl
  rintro - spares (rd | base)
  · simp [flag, ← rd] at spares
  · simp [flag, (basePcWritten_iff x).2 base] at spares

theorem sparesPc_storeRow {w : Width} {x : Transfer} (row : StoreRow i w x) :
    SparesPc i fun r => x.Wback ∧ r = x.rn := by
  have flag : i.writesPC = basePcWritten x.p x.w x.rn := by cases row <;> rfl
  intro _ spares base
  exact nomatch spares.symm.trans (flag.trans ((basePcWritten_iff x).2 base))

theorem sparesPc_ldm (f : BdtForm) : SparesPc (.ldm f) fun r => InList f.rlist r ∨ (f.w = true ∧ r = f.rn) := by
  rintro - spares (listed | ⟨hw, base⟩)
  · have bit : f.rlist.getLsbD 15 = true := listed
    rw [Instr.writesPC, bit, Bool.true_or] at spares
    nomatch spares
  · simp [Instr.writesPC, hw, ← base] at spares

theorem sparesPc_stm (f : BdtForm) : SparesPc (.stm f) fun r => f.w = true ∧ r = f.rn := by
  rintro - spares ⟨hw, base⟩
  simp [Instr.writesPC, hw, ← base] at spares

theorem writesPC_branchRow {c : Option Cond} {o : Int} (row : BranchRow i c o) : i.writesPC = true := by
  cases row <;> rfl

theorem writesPC_exchangeRow {c : Option Cond} {rm : Reg} (row : ExchangeRow i c rm) : i.writesPC = true := by
  cases row <;> rfl

theorem writesPC_swiRow {c : Option Cond} (row : SwiRow i c) : i.writesPC = true := by
  cases row <;> rfl

theorem writesPC_of_return (ret : ReturnsFromException i) : i.writesPC = true := by
  rcases ret with ⟨op, c, rn, form, row, notTest⟩ | ⟨f, rfl, -, h15⟩
  · rw [writesPC_dpRow row, notTest]
    rfl
  · have bit : f.rlist.getLsbD 15 = true := h15
    rw [Instr.writesPC, bit, Bool.true_or]

/-- The rows of formats 1 to 4 write a low register; the compare of format 5 writes none. -/
theorem sparesPc_thumbDpRow {op : DpOp} {rd : Reg} {a b : State → Word} {shc : State → Bool} {k : Nat}
    (row : ThumbDpRow i op rd a b shc k) (writes : isTest op = false) : SparesPc i (· = rd) := by
  cases row with
  | movImm8 f | addImm8 f | subImm8 f => exact sparesPc_of_isLow id
  | cmpImm8 f | tst f | cmpReg f | cmn f | cmpHi f => nomatch writes
  | lslImm f | lsrImm f | asrImm f | addReg f | subReg f | addImm3 f | subImm3 f | and f | eor f | lslReg f | lsrReg f
  | asrReg f | adc f | sbc f | ror f | neg f | orr f | bic f | mvn f =>
    exact sparesPc_of_isLow isLow_of_and

theorem sparesPc_thumbMoveRow {rd : Reg} {v : State → Word} (row : ThumbMoveRow i rd v) : SparesPc i (· = rd) := by
  cases row with
  | addHi f | movHi f => exact sparesPc_of_eq rfl
  | addPc f | addSp f => exact sparesPc_of_isLow id
  | addSpImm7 w | subSpImm7 w => exact fun _ _ => by decide

theorem sparesPc_thumbLoadRow {k : LoadKind} {rd : Reg} {a : State → Word} (row : ThumbLoadRow i k rd a) :
    SparesPc i (· = rd) := by
  cases row with
  | ldrPc f | ldrSp f => exact sparesPc_of_isLow id
  | ldrReg f | ldrbReg f | ldsb f | ldrhReg f | ldsh f | ldrImm f | ldrbImm f | ldrhImm f =>
    exact sparesPc_of_isLow isLow_of_and

end

end Sys2Proof.Proofs
end

section
/-!
PROOF. What an instruction may touch, and where it stops (spec/60_exceptions.md sections 1 and 5, R26, R27, R65, R445, R449,
R452, R455, R500): an instruction that is legal where it runs completes with the effects its family has, by the statement of
that family; every other one is refused or faults.
-/

namespace Sys2Proof.Proofs

open Sys2Proof.Machine Sys2Proof.Claims

/-! ### Effects -/

/-- What a completed instruction leaves alone, by the tables of the instructions that may write each thing, and that it has
charged its fetch. In User mode none but a software interrupt leaves the mode, I, F or a bank's storage changed. -/
structure Effects (i : Instr) (s t : State) : Prop where
  pc : i.wellFormed = true → i.writesPC = false → t.pc = s.pc
  flags : ¬ WritesFlags i → SameFlags s t
  memory : ¬ WritesMemory i → SameMemory s t
  control : ¬ WritesControl i → t.i = s.i ∧ t.f = s.f ∧ t.mode = s.mode
  thumb : ¬ WritesThumbBit i → t.t = s.t
  log : ¬ CoprocessorRow i → t.log = s.log
  cycles : s.cycles + fetchCharge s ≤ t.cycles
  user : s.mode = .usr → (∀ c, SwiRow i c → ¬ HoldsOpt s c) →
    t.i = s.i ∧ t.f = s.f ∧ t.mode = s.mode ∧ SameBanks s t

/-- The instruction answers a next state, with the effects of its family. -/
def Completes (i : Instr) (s : State) : Prop := ∃ t, exec i s = .next t ∧ Effects i s t

section
variable {i : Instr} {s t : State} {P : Reg → Prop} {k : Nat} {nonSeq : Bool}

theorem le_cycles_of_charged (h : Charged s t k nonSeq) : s.cycles + fetchCharge s ≤ t.cycles :=
  h.1 ▸ Nat.le_add_right _ k

/-- Most instructions touch registers, and what they may touch of flags and memory, and nothing else. -/
theorem Effects.of_rest (spares : SparesPc i P) (regs : SameRegsBut s t P) (flags : ¬ WritesFlags i → SameFlags s t)
    (memory : ¬ WritesMemory i → SameMemory s t) (rest : SameRest s t) (cycles : s.cycles + fetchCharge s ≤ t.cycles) :
    Effects i s t := by
  obtain ⟨⟨hi, hf, ht, hmode⟩, banks, hlog⟩ := rest
  exact ⟨fun encoded flag => regs Reg.pc (spares encoded flag), flags, memory, fun _ => ⟨hi, hf, hmode⟩, fun _ => ht,
    fun _ => hlog, cycles, fun _ _ => ⟨hi, hf, hmode, banks⟩⟩

/-- An instruction that writes registers and no more. -/
theorem completes_of_frame (run : exec i s = .next t) (spares : SparesPc i P) (regs : SameRegsBut s t P)
    (flags : SameFlags s t) (rest : SameRest s t) (memory : SameMemory s t) (charged : Charged s t k nonSeq) :
    Completes i s :=
  ⟨t, run, .of_rest spares regs (fun _ => flags) (fun _ => memory) rest (le_cycles_of_charged charged)⟩

/-- An instruction that may write flags, and registers. -/
theorem completes_of_flags (run : exec i s = .next t) (spares : SparesPc i P) (regs : SameRegsBut s t P)
    (flags : ¬ WritesFlags i → SameFlags s t) (rest : SameRest s t) (memory : SameMemory s t)
    (charged : Charged s t k nonSeq) : Completes i s :=
  ⟨t, run, .of_rest spares regs flags (fun _ => memory) rest (le_cycles_of_charged charged)⟩

/-- An instruction that writes memory, and registers. -/
theorem completes_of_store (run : exec i s = .next t) (writes : WritesMemory i) (spares : SparesPc i P)
    (regs : SameRegsBut s t P) (flags : SameFlags s t) (rest : SameRest s t) (charged : Charged s t k nonSeq) :
    Completes i s :=
  ⟨t, run, .of_rest spares regs (fun _ => flags) (fun no => absurd writes no) rest (le_cycles_of_charged charged)⟩

theorem completes_of_not_passes (h : ¬ Passes i s) : Completes i s := by
  obtain ⟨t, run, regs, flags, rest, memory, cycles⟩ := exec_of_not_passes h
  exact ⟨t, run, .of_rest (sparesPc_nothing i) regs (fun _ => flags) (fun _ => memory) rest cycles.ge⟩

/-! ### Legal instructions -/

/-- Nothing stops the instruction: its list is not empty, a saved status it uses is there, and a mode it switches to is. -/
structure Legal (i : Instr) (s : State) : Prop where
  list : ¬ EmptyList i
  saved : UsesSavedStatus i → s.mode ≠ .usr ∧ s.mode ≠ .sys
  mode : ∀ b, SwitchesTo i s b → ∃ m, modeNumber m = b

/-- An exception return that is legal finds its mode in the saved status. -/
theorem Legal.of_return (legal : Legal i s) (ret : ReturnsFromException i) :
    s.mode ≠ .usr ∧ s.mode ≠ .sys ∧ ∃ m, modeNumber m = s.spsr.extractLsb' 0 5 := by
  obtain ⟨husr, hsys⟩ := legal.saved (.inr (.inr ret))
  exact ⟨husr, hsys, legal.mode _ (.inr ⟨ret, rfl⟩)⟩

/-- An exception return may touch flags, T, control and banks; it is no store and no coprocessor instruction. -/
theorem completes_of_return (run : exec i s = .next t) (ret : ReturnsFromException i) (husr : s.mode ≠ .usr)
    (memory : SameMemory s t) (log : t.log = s.log) (charged : Charged s t k nonSeq) : Completes i s :=
  ⟨t, run, fun _ flag => (nomatch flag.symm.trans (writesPC_of_return ret)),
    fun no => absurd (.inr (.inr (.inr (.inr (.inr (.inr ret)))))) no, fun _ => memory,
    fun no => absurd (.inr (.inl ret)) no, fun no => absurd (.inr (.inl ret)) no, fun _ => log,
    le_cycles_of_charged charged, fun user => absurd user husr⟩

/-! ### Data processing -/

theorem completes_dpRow {op : DpOp} {c : Cond} {set : Bool} {rn rd : Reg} {form : Operand2}
    (row : DpRow i op c set rn rd form) (passes : Passes i s) (legal : Legal i s) : Completes i s := by
  have holds := passes c (condition_dpRow row)
  cases test : isTest op with
  | true =>
    obtain ⟨t, run, regs, -, rest, memory, charged⟩ := testsSetFlagsOnly _ _ _ _ _ _ _ s row test holds
    exact completes_of_flags run (sparesPc_nothing i) regs
      (fun no => absurd (.inr (.inl ⟨_, _, _, _, _, _, row, test⟩)) no) rest memory charged
  | false =>
    have flag : i.writesPC = (rd == Reg.pc) := by rw [writesPC_dpRow row, test]; rfl
    by_cases hrd : rd = 15#4
    · subst hrd
      cases set with
      | false =>
        obtain ⟨t, run, -, regs, flags, rest, memory, charged⟩ := dataProcessingJumps _ _ _ _ _ s row test holds
        exact completes_of_frame run (sparesPc_of_eq flag) regs flags rest memory charged
      | true =>
        have ret : ReturnsFromException i := .inl ⟨_, _, _, _, row, test⟩
        obtain ⟨husr, hsys, m, hm⟩ := legal.of_return ret
        obtain ⟨t, run, -, -, -, -, memory, log, charged⟩ :=
          dataProcessingReturns _ _ _ _ _ s m row test holds husr hsys hm
        exact completes_of_return run ret husr memory log charged
    · obtain ⟨t, run, -, regs, flags, rest, memory, charged⟩ :=
        dataProcessingWrites _ _ _ _ _ _ _ s row test hrd holds
      refine completes_of_flags run (sparesPc_of_eq flag) regs (fun no => ?_) rest memory charged
      cases set with
      | false => exact flags
      | true => exact absurd (.inl ⟨_, _, _, _, _, row⟩) no

/-! ### Status transfer -/

theorem completes_mrs {f : MrsForm} (passes : Passes (.mrs f) s) (legal : Legal (.mrs f) s) : Completes (.mrs f) s := by
  obtain ⟨t, run, -, regs, flags, rest, memory, charged⟩ :=
    moveFromStatus f s (passes f.cond rfl) fun saved => legal.saved (.inl ⟨f, rfl, saved⟩)
  exact completes_of_frame run (sparesPc_of_eq rfl) regs flags rest memory charged

/-- In User mode MSR to the current status ignores the control field (R320), so it leaves every bank's storage alone. -/
theorem banks_of_msr_user {c : Cond} {mask : FieldMask} {op : State → Word} (row : MsrRow i c false mask op)
    (holds : Holds s c) (user : s.mode = .usr) (run : exec i s = .next t) : SameBanks s t := by
  have ignored : s.fetchCost.writeControl mask (op s) = some s.fetchCost :=
    if_neg fun writes => ((writesControlField_iff mask s.mode).1 writes).2 user
  rw [exec_msrRow_of_holds row holds, moveToStatus, if_neg Bool.false_ne_true, ignored] at run
  cases run
  rw [writeFlagsField_eq]
  exact ⟨rfl, rfl, rfl⟩

theorem completes_msrRow {c : Cond} {r : Bool} {mask : FieldMask} {op : State → Word} (row : MsrRow i c r mask op)
    (passes : Passes i s) (legal : Legal i s) : Completes i s := by
  have holds := passes c (condition_msrRow row)
  cases r with
  | true =>
    obtain ⟨husr, hsys⟩ := legal.saved (.inr (.inl ⟨_, _, _, row⟩))
    obtain ⟨t, run, -, regs, flags, ⟨hi, hf, ht, hmode⟩, -, -, memory, log, charged⟩ :=
      (moveToSavedStatus _ _ _ _ s row holds).2 husr hsys
    exact ⟨t, run, fun _ _ => regs Reg.pc id, fun _ => flags, fun _ => memory, fun _ => ⟨hi, hf, hmode⟩, fun _ => ht,
      fun _ => log, le_cycles_of_charged charged, fun user => absurd user husr⟩
  | false =>
    obtain ⟨t, run, -, kept, ht, flags, -, pc, memory, log, charged⟩ := moveToCurrentStatus _ _ _ _ s row holds
      fun hmask husr => legal.mode _ (.inl ⟨_, _, _, row, hmask, husr, rfl⟩)
    refine ⟨t, run, fun _ _ => pc, fun no => ?_, fun _ => memory, fun no => ?_, fun _ => ht, fun _ => log,
      le_cycles_of_charged charged, fun user _ => ?_⟩
    · have noFlags : mask.f ≠ true := fun hmask => no (.inr (.inr (.inr (.inr (.inl ⟨_, _, _, row, hmask⟩)))))
      rwa [if_neg noFlags] at flags
    · obtain ⟨hmode, hi, hf⟩ := kept fun ⟨hmask, _⟩ => no (.inl ⟨_, _, _, row, hmask⟩)
      exact ⟨hi, hf, hmode⟩
    · obtain ⟨hmode, hi, hf⟩ := kept fun ⟨_, husr⟩ => husr user
      exact ⟨hi, hf, hmode, banks_of_msr_user row holds user run⟩

/-! ### Block transfers -/

/-- In User mode the User registers are the live ones (R308). -/
theorem setUserReg_of_user (user : s.mode = .usr) (r : Reg) (v : Word) : s.setUserReg r v = s.setReg r v := by
  have bank : s.mode.bank = .usr := congrArg Mode.bank user
  have notFiq : s.mode ≠ .fiq := by rw [user]; decide
  simp only [State.setUserReg, if_neg notFiq, if_pos bank]
  repeat' split
  all_goals rfl

theorem writeLoaded_of_user (user : s.mode = .usr) (data : List (Reg × Word)) :
    s.writeLoaded data true = s.writeLoaded data false := by
  induction data generalizing s with
  | nil => rfl
  | cons d rest ih =>
    have one : s.writeLoadedOne true d = s.writeLoadedOne false d := by
      simp only [State.writeLoadedOne, setUserReg_of_user user]
      rfl
    have stays : (s.writeLoadedOne false d).mode = .usr := by
      simp only [State.writeLoadedOne]
      split <;> exact user
    rw [State.writeLoaded, State.writeLoaded, one, ih stays]

theorem mode_blockCost (n : Nat) (a : Word) (seq : Bool) : (s.blockCost n a seq).mode = s.mode := by
  rw [State.blockCost_eq]

/-- In User mode the S bit of LDM without register 15 says nothing. -/
theorem exec_ldm_of_user {f : BdtForm} (hs : f.s = true) (h15 : ¬ InList f.rlist 15#4) (user : s.mode = .usr) :
    exec (.ldm f) s = exec (.ldm { f with s := false }) s := by
  have bit : f.rlist.getLsbD 15 = false := Bool.eq_false_of_not_eq_true h15
  have body : Machine.loadMultiple f s.fetchCost = Machine.loadMultiple { f with s := false } s.fetchCost := by
    simp only [Machine.loadMultiple, hs, bit, Bool.and_false, Bool.not_false, Bool.and_true, writeLoaded_of_user,
      apply_ite State.mode, State.setReg_mode, mode_blockCost, State.fetchCost_mode, user, ite_self]
  exact congrArg (fun r => if s.fetchCost.conditionPassed f.cond then r
    else .next { s.fetchCost with condPassed := false }) body

theorem completes_ldm {f : BdtForm} (passes : Passes (.ldm f) s) (legal : Legal (.ldm f) s) : Completes (.ldm f) s := by
  have holds : Holds s f.cond := passes f.cond rfl
  have notEmpty : f.rlist ≠ 0#16 := fun e => legal.list (.inl ⟨f, .inl rfl, e⟩)
  cases hs : f.s with
  | false =>
    obtain ⟨t, run, -, -, regs, flags, rest, memory, charged⟩ := loadMultiple f s holds notEmpty hs
    exact completes_of_frame run (sparesPc_ldm f) regs flags rest memory charged
  | true =>
    by_cases h15 : InList f.rlist 15#4
    · have ret : ReturnsFromException (.ldm f) := .inr ⟨f, rfl, hs, h15⟩
      obtain ⟨husr, hsys, m, hm⟩ := legal.of_return ret
      obtain ⟨t, run, -, -, -, -, -, -, memory, log, charged⟩ := loadMultipleReturns f s m holds hs h15 husr hsys hm
      exact completes_of_return run ret husr memory log charged
    · obtain ⟨t, run, hmode, -, -, ⟨views, -⟩, flags, ⟨hi, hf, ht, -⟩, memory, log, charged⟩ :=
        loadMultipleUserBank f s holds notEmpty hs h15
      refine ⟨t, run, fun encoded flag => ?_, fun _ => flags, fun _ => memory, fun _ => ⟨hi, hf, hmode⟩, fun _ => ht,
        fun _ => log, le_cycles_of_charged charged, fun user _ => ⟨hi, hf, hmode, ?_⟩⟩
      · have pc := views s.mode Reg.pc fun written =>
          sparesPc_ldm f encoded flag (written.imp And.left fun ⟨hw, base, _⟩ => ⟨hw, base⟩)
        rwa [view_mode, ← hmode, view_mode] at pc
      obtain ⟨u, liveRun, -, -, -, -, ⟨-, banks, -⟩, -⟩ := loadMultiple { f with s := false } s holds notEmpty rfl
      rw [exec_ldm_of_user hs h15 user, liveRun] at run
      cases run
      exact banks

theorem completes_stm {f : BdtForm} (passes : Passes (.stm f) s) (legal : Legal (.stm f) s) : Completes (.stm f) s := by
  obtain ⟨t, run, -, -, regs, flags, rest, charged⟩ :=
    storeMultiple f s (passes f.cond rfl) fun e => legal.list (.inl ⟨f, .inr rfl, e⟩)
  exact completes_of_store run (.inr (.inr (.inr (.inl ⟨f, rfl⟩)))) (sparesPc_stm f) regs flags rest charged

theorem completes_tPush {f : TPushPop} (legal : Legal (.tPush f) s) : Completes (.tPush f) s := by
  obtain ⟨t, run, -, -, regs, flags, rest, charged⟩ :=
    (thumbBlockStores s).1 f fun ⟨list, link⟩ => legal.list (.inr (.inl ⟨f, .inl rfl, list, link⟩))
  exact completes_of_store run (.inr (.inr (.inr (.inr (.inl ⟨f, rfl⟩))))) (fun _ _ => by decide) regs flags rest charged

theorem completes_tPop {f : TPushPop} (legal : Legal (.tPop f) s) : Completes (.tPop f) s := by
  obtain ⟨t, run, -, -, regs, flags, rest, memory, charged⟩ :=
    (thumbBlockLoads s).1 f fun ⟨list, pc⟩ => legal.list (.inr (.inl ⟨f, .inr rfl, list, pc⟩))
  rw [← popList_eq] at regs
  refine completes_of_frame run (fun _ flag => ?_) regs flags rest memory charged
  rintro (listed | base)
  · nomatch listed.symm.trans ((popList_pc f).trans flag)
  · exact absurd base (by decide)

theorem completes_tStmia {f : TBlock} (legal : Legal (.tStmia f) s) : Completes (.tStmia f) s := by
  obtain ⟨t, run, -, -, regs, flags, rest, charged⟩ :=
    (thumbBlockStores s).2 f fun list => legal.list (.inr (.inr ⟨f, .inl rfl, list⟩))
  exact completes_of_store run (.inr (.inr (.inr (.inr (.inr ⟨f, rfl⟩))))) (sparesPc_of_isLow id) regs flags rest charged

theorem completes_tLdmia {f : TBlock} (legal : Legal (.tLdmia f) s) : Completes (.tLdmia f) s := by
  obtain ⟨t, run, -, -, regs, flags, rest, memory, charged⟩ :=
    (thumbBlockLoads s).2 f fun list => legal.list (.inr (.inr ⟨f, .inr rfl, list⟩))
  rw [← lowList_eq] at regs
  exact completes_of_frame run
    (fun encoded flag => not_or.2 ⟨not_inList_lowList_pc f, sparesPc_of_isLow id encoded flag⟩) regs flags rest memory
    charged

/-! ### The families that always complete -/

theorem completes_mulRow {c : Option Cond} {set : Bool} {rd rm rs : Reg} {acc : State → Nat} {k : Nat}
    (row : MulRow i c set rd rm rs acc k) (passes : Passes i s) : Completes i s := by
  obtain ⟨t, run, -, regs, flags, rest, memory, charged⟩ :=
    multiplies _ _ _ _ _ _ _ _ s row (holdsOpt_of_passes passes (condition_mulRow row))
  refine completes_of_flags run (sparesPc_mulRow row) regs (fun no => ?_) rest memory charged
  cases set with
  | false => exact flags
  | true => exact absurd (.inr (.inr (.inl ⟨_, _, _, _, _, _, _, row, rfl⟩))) no

theorem completes_mulLongRow {f : MulLong} {value : State → Int} {k : State → Nat} (row : MulLongRow i f value k)
    (passes : Passes i s) : Completes i s := by
  obtain ⟨t, run, -, -, regs, flags, rest, memory, charged⟩ :=
    longMultiplies _ _ _ _ s row (passes _ (condition_mulLongRow row))
  refine completes_of_flags run (sparesPc_mulLongRow row) regs (fun no => ?_) rest memory charged
  have noFlags : f.s ≠ true := fun set => no (.inr (.inr (.inr (.inl ⟨_, _, _, row, set⟩))))
  rwa [if_neg noFlags] at flags

theorem completes_exchangeRow {c : Option Cond} {rm : Reg} (row : ExchangeRow i c rm) (passes : Passes i s) :
    Completes i s := by
  obtain ⟨t, run, -, -, -, flags, hi, hf, hmode, banks, log, memory, charged⟩ :=
    branches.2 _ _ _ s row (holdsOpt_of_passes passes (condition_exchangeRow row))
  exact ⟨t, run, fun _ flag => (nomatch flag.symm.trans (writesPC_exchangeRow row)), fun _ => flags, fun _ => memory,
    fun _ => ⟨hi, hf, hmode⟩, fun no => absurd (.inl ⟨_, _, row⟩) no, fun _ => log,
    le_cycles_of_charged charged, fun _ _ => ⟨hi, hf, hmode, banks⟩⟩

theorem completes_swiRow {c : Option Cond} (row : SwiRow i c) (passes : Passes i s) : Completes i s := by
  have holds := holdsOpt_of_passes passes (condition_swiRow row)
  obtain ⟨t, run, -, -, -, -, -, -, -, flags, -, -, memory, log, charged⟩ := softwareInterrupt _ _ s row holds
  exact ⟨t, run, fun _ flag => (nomatch flag.symm.trans (writesPC_swiRow row)), fun _ => flags, fun _ => memory,
    fun no => absurd (.inr (.inr ⟨_, row⟩)) no, fun no => absurd (.inr (.inr ⟨_, row⟩)) no, fun _ => log,
    le_cycles_of_charged charged, fun _ no => absurd holds (no _ row)⟩

theorem completes_coprocessorRow (row : CoprocessorRow i) (passes : Passes i s) : Completes i s := by
  obtain ⟨c, hc⟩ := exists_condition_coprocessorRow row
  exact ⟨_, exec_coprocessorRow_of_holds row hc (passes c hc), fun _ _ => rfl, fun _ => ⟨rfl, rfl, rfl, rfl⟩,
    fun _ => ⟨fun _ => rfl, rfl, rfl⟩, fun _ => ⟨rfl, rfl, rfl⟩, fun _ => rfl, fun no => absurd row no,
    (fetchCost_cycles s).ge, fun _ _ => ⟨rfl, rfl, rfl, rfl, rfl, rfl⟩⟩

theorem completes_thumbDpRow {op : DpOp} {rd : Reg} {a b : State → Word} {shc : State → Bool} {n : Nat}
    (row : ThumbDpRow i op rd a b shc n) : Completes i s := by
  have writes : WritesFlags i := .inr (.inr (.inr (.inr (.inr (.inl ⟨_, _, _, _, _, _, row⟩)))))
  obtain ⟨t, run, regs, -, rest, memory, charged⟩ := thumbArithmetic _ _ _ _ _ _ _ s row
  cases test : isTest op with
  | true =>
    rw [if_pos test] at regs
    exact completes_of_flags run (sparesPc_nothing i) regs (fun no => absurd writes no) rest memory charged
  | false =>
    rw [if_neg (ne_true_of_eq_false test)] at regs
    exact completes_of_flags run (sparesPc_thumbDpRow row test) regs.2 (fun no => absurd writes no) rest memory charged

/-! ### All instructions -/

/-- A legal instruction completes. -/
theorem completes_of_legal (passes : Passes i s) (legal : Legal i s) : Completes i s := by
  cases family i with
  | dataProcessing row => exact completes_dpRow row passes legal
  | mrs f => exact completes_mrs passes legal
  | msr row => exact completes_msrRow row passes legal
  | multiply row => exact completes_mulRow row passes
  | multiplyLong row => exact completes_mulLongRow row passes
  | load row =>
    obtain ⟨t, run, -, -, regs, flags, rest, memory, charged⟩ := singleLoads _ _ _ s row (passes _ (condition_loadRow row))
    exact completes_of_frame run (sparesPc_loadRow row) regs flags rest memory charged
  | store row =>
    obtain ⟨t, run, -, -, regs, flags, rest, charged⟩ := singleStores _ _ _ s row (passes _ (condition_storeRow row))
    exact completes_of_store run (.inl ⟨_, _, row⟩) (sparesPc_storeRow row) regs flags rest charged
  | swp f =>
    obtain ⟨t, run, -, -, regs, flags, rest, charged⟩ := (swaps f s (passes _ rfl)).1
    exact completes_of_store run (.inr (.inr (.inl ⟨f, .inl rfl⟩))) (sparesPc_of_eq rfl) regs flags rest charged
  | swpb f =>
    obtain ⟨t, run, -, -, regs, flags, rest, charged⟩ := (swaps f s (passes _ rfl)).2
    exact completes_of_store run (.inr (.inr (.inl ⟨f, .inr rfl⟩))) (sparesPc_of_eq rfl) regs flags rest charged
  | ldm f => exact completes_ldm passes legal
  | stm f => exact completes_stm passes legal
  | branch row =>
    obtain ⟨t, run, -, regs, flags, rest, memory, charged⟩ :=
      branches.1 _ _ _ s row (holdsOpt_of_passes passes (condition_branchRow row))
    exact completes_of_frame run (sparesPc_of_writesPC (writesPC_branchRow row)) regs flags rest memory charged
  | exchange row => exact completes_exchangeRow row passes
  | bl f =>
    obtain ⟨t, run, -, -, regs, flags, rest, memory, charged⟩ := (linkBranches s).1 f (passes _ rfl)
    exact completes_of_frame run (sparesPc_of_writesPC rfl) regs flags rest memory charged
  | tBlHi o =>
    obtain ⟨t, run, -, regs, flags, rest, memory, charged⟩ := (linkBranches s).2.1 o
    exact completes_of_frame run (fun _ _ => by decide) regs flags rest memory charged
  | tBlLo o =>
    obtain ⟨t, run, -, -, regs, flags, rest, memory, charged⟩ := (linkBranches s).2.2 o
    exact completes_of_frame run (sparesPc_of_writesPC rfl) regs flags rest memory charged
  | softwareInterrupt row => exact completes_swiRow row passes
  | coprocessor row => exact completes_coprocessorRow row passes
  | thumbArithmetic row => exact completes_thumbDpRow row
  | thumbMove row =>
    obtain ⟨t, run, -, regs, flags, rest, memory, charged⟩ := thumbMoves _ _ _ s row
    exact completes_of_frame run (sparesPc_thumbMoveRow row) regs flags rest memory charged
  | thumbLoad row =>
    obtain ⟨t, run, -, regs, flags, rest, memory, charged⟩ := thumbLoads _ _ _ _ s row
    exact completes_of_frame run (sparesPc_thumbLoadRow row) regs flags rest memory charged
  | thumbStore row =>
    obtain ⟨t, run, -, regs, flags, rest, charged⟩ := thumbStores _ _ _ _ s row
    exact completes_of_store run (.inr (.inl ⟨_, _, _, row⟩)) (sparesPc_nothing _) regs flags rest charged
  | tPush f => exact completes_tPush legal
  | tPop f => exact completes_tPop legal
  | tStmia f => exact completes_tStmia legal
  | tLdmia f => exact completes_tLdmia legal

end

end Sys2Proof.Proofs
end

section
/-!
PROOF. Where an instruction stops (spec/60_exceptions.md sections 1 and 5, R440, R449, R452), and that one that answers a next
state has the effects of its family, the charge of its fetch among them (R500).
-/

namespace Sys2Proof.Proofs

open Sys2Proof.Machine Sys2Proof.Claims

section
variable {i : Instr} {s : State}

/-! ### The empty list (R309, R415) -/

theorem exec_of_emptyList (passes : Passes i s) (empty : EmptyList i) : exec i s = .refused .emptyRegisterList := by
  rcases empty with ⟨f, rfl | rfl, list⟩ | ⟨f, rfl | rfl, list⟩ | ⟨f, rfl | rfl, list⟩
  · exact (prologue_of_holds (passes f.cond rfl) fun u => Machine.loadMultiple f u).trans (if_pos list)
  · exact (prologue_of_holds (passes f.cond rfl) fun u => Machine.storeMultiple f u).trans (if_pos list)
  · exact if_pos ((pushList_eq_zero_iff f).2 list)
  · exact if_pos ((popList_eq_zero_iff f).2 list)
  · exact if_pos ((lowList_eq_zero_iff f).2 list)
  · exact if_pos ((lowList_eq_zero_iff f).2 list)

/-! ### The exception returns (R447) -/

theorem returnFromException_noSpsr (h : s.mode.hasSpsr = false) (target : Word) :
    s.returnFromException target = .fault (.invariantViolation .noSpsr s) :=
  if_neg (ne_true_of_eq_false h)

theorem returnFromException_badMode (saved : s.mode.hasSpsr = true) (bad : ∀ m, modeNumber m ≠ s.spsr.extractLsb' 0 5)
    (target : Word) : s.returnFromException target = .fault (.invariantViolation .badMode s) := by
  rw [State.returnFromException, if_pos saved, unpackStatus_illegal bad]

/-- A data-processing return whose condition passes is the return in the state its operands were computed in. -/
theorem exec_dpReturn_of_holds {op : DpOp} {c : Cond} {rn : Reg} {form : Operand2}
    (row : DpRow i op c true rn 15#4 form) (notTest : isTest op = false) (holds : Holds s c) :
    exec i s = (s.fetchCost.shifted form).returnFromException (form.compute op rn s).value := by
  rw [exec_dpRow_of_holds row holds, notTest]
  rfl

theorem loadMultiple_noSpsr {f : BdtForm} (notEmpty : f.rlist ≠ 0#16) (hs : f.s = true) (h15 : InList f.rlist 15#4)
    (unsaved : s.mode.hasSpsr = false) : Machine.loadMultiple f s = .fault (.invariantViolation .noSpsr s) := by
  have bit : f.rlist.getLsbD 15 = true := h15
  simp only [Machine.loadMultiple, if_neg notEmpty, hs, bit, unsaved]
  rfl

/-- The registers are loaded before the return that fails (R453). -/
theorem loadMultiple_badMode {f : BdtForm} (notEmpty : f.rlist ≠ 0#16) (hs : f.s = true) (h15 : InList f.rlist 15#4)
    (saved : s.mode.hasSpsr = true) (bad : ∀ m, modeNumber m ≠ s.spsr.extractLsb' 0 5) :
    Machine.loadMultiple f s = .fault (.invariantViolation .badMode (blockLoaded f s)) := by
  have bit : f.rlist.getLsbD 15 = true := h15
  have ret := returnFromException_badMode (s := blockLoaded f s) (by rwa [blockLoaded_mode]) (by rwa [blockLoaded_spsr])
  simp only [Machine.loadMultiple, if_neg notEmpty, hs, bit, saved, Bool.not_true, Bool.and_false, Bool.and_true,
    Bool.false_eq_true, if_true, if_false]
  exact congrArg (Result.andThen · fun t => .next t.internalCycle) (ret _)

/-! ### NoSPSR and BadMode (R35, R36) -/

theorem hasSpsr_of_unprivileged {m : Mode} (h : m = .usr ∨ m = .sys) : m.hasSpsr = false := by
  rcases h with rfl | rfl <;> rfl

theorem return_faults_noSpsr (passes : Passes i s) (notEmpty : ¬ EmptyList i) (ret : ReturnsFromException i)
    (unsaved : s.mode.hasSpsr = false) : ∃ l, exec i s = .fault (.invariantViolation .noSpsr l) := by
  rcases ret with ⟨op, c, rn, form, row, notTest⟩ | ⟨f, rfl, hs, h15⟩
  · exact ⟨_, (exec_dpReturn_of_holds row notTest (passes c (condition_dpRow row))).trans
      (returnFromException_noSpsr (s := s.fetchCost.shifted form) unsaved _)⟩
  · exact ⟨_, (prologue_of_holds (passes f.cond rfl) fun u => Machine.loadMultiple f u).trans
      (loadMultiple_noSpsr (s := s.fetchCost) (fun e => notEmpty (.inl ⟨f, .inl rfl, e⟩)) hs h15 unsaved)⟩

theorem return_faults_badMode (passes : Passes i s) (notEmpty : ¬ EmptyList i) (ret : ReturnsFromException i)
    (saved : s.mode.hasSpsr = true) (bad : ∀ m, modeNumber m ≠ s.spsr.extractLsb' 0 5) :
    ∃ l, exec i s = .fault (.invariantViolation .badMode l) := by
  rcases ret with ⟨op, c, rn, form, row, notTest⟩ | ⟨f, rfl, hs, h15⟩
  · exact ⟨_, (exec_dpReturn_of_holds row notTest (passes c (condition_dpRow row))).trans
      (returnFromException_badMode (s := s.fetchCost.shifted form) saved bad _)⟩
  · exact ⟨_, (prologue_of_holds (passes f.cond rfl) fun u => Machine.loadMultiple f u).trans
      (loadMultiple_badMode (s := s.fetchCost) (fun e => notEmpty (.inl ⟨f, .inl rfl, e⟩)) hs h15 saved bad)⟩

/-- An instruction that uses a saved status faults where there is none. -/
theorem faults_noSpsr (passes : Passes i s) (notEmpty : ¬ EmptyList i) (uses : UsesSavedStatus i)
    (mode : s.mode = .usr ∨ s.mode = .sys) : ∃ l, exec i s = .fault (.invariantViolation .noSpsr l) := by
  have unsaved := hasSpsr_of_unprivileged mode
  rcases uses with ⟨f, rfl, hr⟩ | ⟨c, mask, op, row⟩ | ret
  · refine ⟨s.fetchCost, (prologue_of_holds (passes f.cond rfl) fun u => Machine.moveFromStatus f u).trans ?_⟩
    exact (if_pos hr).trans (if_neg (ne_true_of_eq_false unsaved))
  · exact (moveToSavedStatus i c mask op s row (passes c (condition_msrRow row))).1 mode
  · exact return_faults_noSpsr passes notEmpty ret unsaved

theorem writeControl_illegal {mask : FieldMask} {v : Word} (hmask : mask.c = true) (husr : s.mode ≠ .usr)
    (bad : ∀ m, modeNumber m ≠ v.extractLsb' 0 5) : s.writeControl mask v = none := by
  rw [State.writeControl, if_pos ((writesControlField_iff mask s.mode).2 ⟨hmask, husr⟩), State.switchMode_eq,
    ofBits_eq_none bad]
  rfl

/-- An instruction that switches to a number that is no mode faults. -/
theorem faults_badMode (passes : Passes i s) (notEmpty : ¬ EmptyList i)
    (saved : UsesSavedStatus i → s.mode ≠ .usr ∧ s.mode ≠ .sys) {b : BitVec 5} (switches : SwitchesTo i s b)
    (bad : ∀ m, modeNumber m ≠ b) : ∃ l, exec i s = .fault (.invariantViolation .badMode l) := by
  rcases switches with ⟨c, mask, op, row, hmask, husr, rfl⟩ | ⟨ret, rfl⟩
  · refine ⟨s.fetchCost, ?_⟩
    rw [exec_msrRow_of_holds row (passes c (condition_msrRow row)), moveToStatus, if_neg Bool.false_ne_true,
      writeControl_illegal (s := s.fetchCost) hmask husr bad]
  · obtain ⟨husr, hsys⟩ := saved (.inr (.inr ret))
    exact return_faults_badMode passes notEmpty ret (hasSpsr_of_privileged husr hsys) bad

end

/-- Settles O12: the stops by what each needs, and every legal instruction completes. -/
theorem stopsExactly : Obligations.StopsExactly := by
  refine fun i s passes => ⟨exec_of_emptyList passes, faults_noSpsr passes, fun notEmpty saved => ⟨?_, fun modes => ?_⟩⟩
  · rintro ⟨b, switches, bad⟩
    exact faults_badMode passes notEmpty saved switches bad
  · obtain ⟨t, run, -⟩ := completes_of_legal passes ⟨notEmpty, saved, modes⟩
    exact ⟨t, run⟩

/-! ### What completed (R26, R27, R65, R445, R455, R500) -/

/-- An instruction that passes and answers a next state was legal: every other one stops. -/
theorem legal_of_next {i : Instr} {s t : State} (passes : Passes i s) (run : exec i s = .next t) : Legal i s := by
  obtain ⟨refuses, noSpsr, legal⟩ := stopsExactly i s passes
  have list : ¬ EmptyList i := fun empty => nomatch run.symm.trans (refuses empty)
  have saved (uses : UsesSavedStatus i) : s.mode ≠ .usr ∧ s.mode ≠ .sys := by
    refine not_or.1 fun mode => ?_
    obtain ⟨l, fault⟩ := noSpsr list uses mode
    nomatch run.symm.trans fault
  refine ⟨list, saved, fun b switches => ?_⟩
  by_contra bad
  obtain ⟨l, fault⟩ := (legal list saved).1 ⟨b, switches, not_exists.1 bad⟩
  nomatch run.symm.trans fault

/-- What every instruction that answers a next state did. -/
theorem effects_of_next {i : Instr} {s t : State} (run : exec i s = .next t) : Effects i s t := by
  have completes : Completes i s := by
    by_cases passes : Passes i s
    · exact completes_of_legal passes (legal_of_next passes run)
    · exact completes_of_not_passes passes
  obtain ⟨u, answer, effects⟩ := completes
  cases run.symm.trans answer
  exact effects

/-- Settles O20: the fetch charge is among the effects of every instruction, the refill evaluates. -/
theorem cyclesNeverDecrease : Obligations.CyclesNeverDecrease :=
  ⟨fun _ _ _ run => (effects_of_next run).cycles, fun _ _ => rfl⟩

end Sys2Proof.Proofs
end

section
/-!
PROOF. The rules that follow from `Effects`: what only the listed instructions write (R26, R27, R65, R140, R455), and that no
step but one that runs a software interrupt leaves User mode (R445).
-/

namespace Sys2Proof.Proofs

open Sys2Proof.Machine Sys2Proof.Claims

theorem writesPC_of_writesThumbBit {i : Instr} (writes : WritesThumbBit i) : i.writesPC = true := by
  rcases writes with ⟨c, rm, row⟩ | ret | ⟨c, row⟩
  · exact writesPC_exchangeRow row
  · exact writesPC_of_return ret
  · exact writesPC_swiRow row

/-- Settles O14: each clause is an effect of the instruction; one that spares the PC is none that may write T. -/
theorem onlyListedInstructionsWrite : Obligations.OnlyListedInstructionsWrite := by
  intro i s t run
  obtain ⟨pc, flags, memory, control, thumb, log, -, -⟩ := effects_of_next run
  refine ⟨flags, memory, control, thumb, log, fun encoded spares => ⟨pc encoded spares, thumb fun writes => ?_⟩⟩
  nomatch spares.symm.trans (writesPC_of_writesThumbBit writes)

/-! ### A step from User mode -/

/-- The state an operation starts in differs from the state fetched from in the PC, `condPassed` and the cache alone. -/
theorem frame_fetch_advance (s : State) :
    SameFlags s s.fetch.2.advance ∧ SameControl s s.fetch.2.advance ∧ SameBanks s s.fetch.2.advance := by
  rw [s.fetch_eq]
  exact ⟨⟨rfl, rfl, rfl, rfl⟩, ⟨rfl, rfl, rfl, rfl⟩, rfl, rfl, rfl⟩

theorem packStatus_fetch_advance (s : State) : s.fetch.2.advance.packStatus = s.packStatus := by
  rw [s.fetch_eq]
  rfl

theorem view_fetch_advance (s : State) (m : Mode) {r : Reg} (hr : r ≠ Reg.pc) :
    s.fetch.2.advance.view m r = s.view m r := by
  obtain ⟨-, ⟨-, -, -, mode⟩, -, shadow, high⟩ := frame_fetch_advance s
  refine view_congr_live mode shadow high fun _ => ?_
  rw [State.reg_advance _ hr, s.fetch_eq]
  rfl

/-- What the software interrupt leaves behind the write-PC path: the second outcome of R445. -/
theorem softwareInterrupt_step {i : Instr} {c : Option Cond} {s u : State} (row : SwiRow i c)
    (holds : HoldsOpt s.fetch.2.advance c) (run : exec i s.fetch.2.advance = .next u) :
    let t := u.finish true
    t.mode = .svc ∧ t.i = true ∧ t.f = s.f ∧ t.t = false ∧ t.pc = 0x0000000C#32 ∧
      t.spsr = s.packStatus ∧ t.reg 14#4 = s.pc ∧
      (∀ m r, r ≠ 15#4 → ¬ (m = .svc ∧ r = 14#4) → t.view m r = s.view m r) ∧
      (∀ m, m ≠ .svc → t.viewSpsr m = s.viewSpsr m) ∧ SameFlags s t := by
  obtain ⟨u', answer, mode, spsr, link, pc, thumb, hi, hf, flags, views, spsrs, -, -, -, -, passed⟩ :=
    softwareInterrupt i c _ row holds
  cases run.symm.trans answer
  obtain ⟨⟨n, z, c, v⟩, ⟨⟨ti, tf, tt, tmode⟩, ⟨tspsr, tshadow, -⟩, -⟩, -⟩ := frame_finish u true
  obtain ⟨⟨n0, z0, c0, v0⟩, ⟨-, f0, t0, mode0⟩, spsr0, shadow0, -⟩ := frame_fetch_advance s
  obtain ⟨n1, z1, c1, v1⟩ := flags
  have target : (u.finish true).pc = 0x0000000C#32 := by
    rw [pc_finish_passed (passed.trans (State.advance_condPassed _)), pc, State.width, thumb]
    decide
  have returns : u.reg 14#4 = s.pc := by
    rw [link, pc_fetch_advance, t0]
    exact BitVec.add_sub_cancel _ _
  have linkKept : (u.finish true).reg 14#4 = u.reg 14#4 := by
    have kept := view_finish u true u.mode (r := 14#4) (by decide)
    rwa [← tmode, view_mode, tmode, view_mode] at kept
  exact ⟨tmode.trans mode, ti.trans hi, tf.trans (hf.trans f0), tt.trans thumb, target,
    tspsr.trans (spsr.trans (packStatus_fetch_advance s)), linkKept.trans returns,
    fun m r hr notLink => (view_finish u true m hr).trans ((views m r hr notLink).trans (view_fetch_advance s m hr)),
    fun m hm => (viewSpsr_congr tmode tshadow tspsr m).trans ((spsrs m hm).trans (viewSpsr_congr mode0 shadow0 spsr0 m)),
    n.trans (n1.trans n0), z.trans (z1.trans z0), c.trans (c1.trans c0), v.trans (v1.trans v0)⟩

/-- Settles O15: a software interrupt that passes takes its exception; any other instruction in User mode keeps the mode,
I, F and the banks. -/
theorem userModeIsOneWay : Obligations.UserModeIsOneWay := by
  intro s t h user hstep
  rcases step_cases s with ⟨w, -, run⟩ | ⟨i, hk, run⟩ <;> rw [run] at hstep
  · nomatch hstep
  · obtain ⟨u, hu, ht⟩ := Result.andThen_eq_next hstep
    cases ht
    rw [(fetched_instr h hk).2]
    by_cases interrupts : ∃ c, SwiRow i c ∧ HoldsOpt s.fetch.2.advance c
    · obtain ⟨c, row, holds⟩ := interrupts
      rw [writesPC_swiRow row]
      exact .inr (softwareInterrupt_step row holds hu)
    · obtain ⟨-, ⟨i0, f0, -, mode0⟩, spsr0, shadow0, high0⟩ := frame_fetch_advance s
      obtain ⟨hi, hf, hmode, spsr, shadow, high⟩ :=
        (effects_of_next hu).user (mode0.trans user) fun c row holds => interrupts ⟨c, row, holds⟩
      obtain ⟨-, ⟨⟨ti, tf, -, tmode⟩, ⟨tspsr, tshadow, thigh⟩, -⟩, -⟩ := frame_finish u i.writesPC
      exact .inl ⟨tmode.trans (hmode.trans (mode0.trans user)), ti.trans (hi.trans i0), tf.trans (hf.trans f0),
        tspsr.trans (spsr.trans spsr0), tshadow.trans (shadow.trans shadow0), thigh.trans (high.trans high0)⟩

end Sys2Proof.Proofs
end

section
/-!
PROOF. An undecodable word ends the step in `IllegalInstruction` (spec/30_encoding.md R102, spec/40_execution_engine.md R159).
-/

namespace Sys2Proof.Proofs

open Sys2Proof.Machine Sys2Proof.Claims

/-- Settles O7: the fetch yields what its bytes decode to, and `step_cases` says what the step does with `Illegal`. -/
theorem undecodableWordFaults : Obligations.UndecodableWordFaults := by
  intro s st w h undecodable
  refine ⟨s.fetch.2.advance, advanced_fetch_advance s, ?_⟩
  rw [decodeBytes_eq_fetch h] at undecodable
  rcases step_cases s with ⟨word, hk, run⟩ | ⟨i, hk, -⟩ <;> rw [hk] at undecodable
  · cases undecodable
    exact run
  · nomatch undecodable

end Sys2Proof.Proofs
end

section
/-!
PROOF. Fields of words: what a laid-out word has in a field, a field and a bit as arithmetic on the word's number, and
what a word that matches a mask and a pattern has in the fields the mask covers (spec/30_encoding.md R100, R149).
-/

namespace Sys2Proof.Proofs

open Sys2Proof.Machine Sys2Proof.Claims

/-! ### Fields of a concatenation

The widths carry `no_index`: `simp` adds up the widths of a laid-out word to 32 or 16, and a sum would no longer be found. -/

section
variable {n m : Nat} (x : BitVec n) (y : BitVec m)

@[simp] theorem extractLsb'_append_low {lo len : Nat} (h : lo + len ≤ m) :
    BitVec.extractLsb' (n := no_index (n + m)) lo len (HAppend.hAppend (γ := no_index (BitVec (n + m))) x y) =
      y.extractLsb' lo len :=
  BitVec.extractLsb'_append_eq_of_add_le h

@[simp] theorem extractLsb'_append_high {lo len : Nat} (h : m ≤ lo) :
    BitVec.extractLsb' (n := no_index (n + m)) lo len (HAppend.hAppend (γ := no_index (BitVec (n + m))) x y) =
      x.extractLsb' (lo - m) len :=
  BitVec.extractLsb'_append_eq_of_le h

@[simp] theorem getLsbD_append_low {k : Nat} (h : k < m) :
    BitVec.getLsbD (w := no_index (n + m)) (HAppend.hAppend (γ := no_index (BitVec (n + m))) x y) k = y.getLsbD k := by
  rw [BitVec.getLsbD_append, if_pos h]

@[simp] theorem getLsbD_append_high {k : Nat} (h : m ≤ k) :
    BitVec.getLsbD (w := no_index (n + m)) (HAppend.hAppend (γ := no_index (BitVec (n + m))) x y) k =
      x.getLsbD (k - m) := by
  rw [BitVec.getLsbD_append, if_neg (Nat.not_lt.2 h)]

/-- A mask meets two fields one by one. -/
theorem append_and (mask : BitVec (n + m)) :
    HAnd.hAnd (α := no_index (BitVec (n + m))) (β := no_index (BitVec (n + m))) (γ := no_index (BitVec (n + m)))
      (HAppend.hAppend (γ := no_index (BitVec (n + m))) x y) mask =
      (x &&& mask.extractLsb' m n) ++ (y &&& mask.extractLsb' 0 m) := by
  rw [← BitVec.and_append, BitVec.extractLsb'_append_extractLsb'_eq_extractLsb' (Nat.zero_add m).symm]
  exact congrArg _ BitVec.extractLsb'_eq_self.symm

end

/-! ### Fields of a word -/

section
variable {n : Nat} (w : BitVec n)

/-- Two neighbouring fields of a word of any width are one field. -/
theorem append_adjacent {hi lo len₁ len₂ : Nat} (adjacent : hi = lo + len₂) :
    w.extractLsb' hi len₁ ++ w.extractLsb' lo len₂ = w.extractLsb' lo (len₁ + len₂) := by
  subst adjacent
  rw [BitVec.extractLsb'_append_extractLsb'_eq_extractLsb' rfl]

theorem bit1_eq_extractLsb' (k : Nat) : bit1 (w.getLsbD k) = w.extractLsb' k 1 := by
  refine BitVec.eq_of_getLsbD_eq fun j hj => ?_
  obtain rfl : j = 0 := by omega
  cases h : w.getLsbD k <;> simp [bit1, h]

/-- A field and the bit below it are one field. -/
theorem append_bit (k len : Nat) : w.extractLsb' (k + 1) len ++ bit1 (w.getLsbD k) = w.extractLsb' k (len + 1) := by
  rw [bit1_eq_extractLsb', append_adjacent w rfl]

end

/-! ### Fields as numbers -/

section
variable {n : Nat} (w : BitVec n)

theorem extractLsb'_eq_iff {lo len : Nat} (v : BitVec len) :
    w.extractLsb' lo len = v ↔ w.toNat / 2 ^ lo % 2 ^ len = v.toNat := by
  rw [← BitVec.toNat_inj, BitVec.extractLsb'_toNat, Nat.shiftRight_eq_div_pow]

theorem getLsbD_eq_true_iff (k : Nat) : w.getLsbD k = true ↔ w.toNat / 2 ^ k % 2 = 1 := by
  rw [BitVec.getLsbD, Nat.testBit_eq_decide_div_mod_eq, decide_eq_true_iff]

theorem getLsbD_eq_false_iff (k : Nat) : w.getLsbD k = false ↔ w.toNat / 2 ^ k % 2 = 0 := by
  rw [← Bool.not_eq_true, getLsbD_eq_true_iff]
  omega

end

/-! ### Masks -/

section
variable {n : Nat} {w m p : BitVec n}

theorem bit_of_match (hw : w &&& m = p) (k : Nat) (covered : m.getLsbD k = true) : w.getLsbD k = p.getLsbD k := by
  rw [← hw, BitVec.getLsbD_and, covered, Bool.and_true]

theorem field_of_match (hw : w &&& m = p) (lo len : Nat) (covered : m.extractLsb' lo len = BitVec.allOnes len) :
    w.extractLsb' lo len = p.extractLsb' lo len := by
  rw [← hw, BitVec.extractLsb'_and, covered, BitVec.and_allOnes]

/-- A word that matches a mask matches every part of it. -/
theorem match_part (hw : w &&& m = p) (part : BitVec n) (covered : m &&& part = part) : w &&& part = p &&& part := by
  rw [← hw, BitVec.and_assoc, covered]

end

end Sys2Proof.Proofs
end

section
/-!
PROOF. The formats of the 32-bit encoding (spec/30_encoding.md R104 to R113): the fields cut from a laid-out word are the
fields laid out, and the fields cut from a word, laid out with the word's own opcode bits, are the word.
-/

namespace Sys2Proof.Proofs

open Sys2Proof.Machine Sys2Proof.Claims

/-! ### Enumerated fields -/

@[simp] theorem cond_ofBits_bits (c : Cond) : Cond.ofBits c.bits = c := by cases c <;> rfl

@[simp] theorem shiftType_ofBits_bits (t : ShiftType) : ShiftType.ofBits t.bits = t := by cases t <;> rfl

@[simp] theorem dpOp_bits_ofBits (b : BitVec 4) : (DpOp.ofBits b).bits = b := by revert b; decide

theorem bits_shiftTypeOf (w : Word) : (shiftTypeOf w).bits = w.extractLsb' 5 2 := by
  have inverse : ∀ b : BitVec 2, (ShiftType.ofBits b).bits = b := by decide
  exact inverse _

theorem bits_fieldMaskOf (w : Word) : (fieldMaskOf w).bits = w.extractLsb' 16 4 := by
  simp only [FieldMask.bits, fieldMaskOf, bit1_getLsbD, append_fields]

/-! ### The formats the decoder cuts in place -/

/-- Fields of ARM.MRS (R105). -/
def mrsOf (w : Word) : MrsForm := { cond := condOf w, r := w.getLsbD 22, rd := regAt w 12 }

/-- Fields of ARM.MSR.reg (R105). -/
def msrRegOf (w : Word) : MsrReg := { cond := condOf w, r := w.getLsbD 22, mask := fieldMaskOf w, rm := regAt w 0 }

/-- Fields of ARM.MSR.imm (R105). -/
def msrImmOf (w : Word) : MsrImm :=
  { cond := condOf w, r := w.getLsbD 22, mask := fieldMaskOf w, rot := w.extractLsb' 8 4, imm8 := w.extractLsb' 0 8 }

/-- Fields of ARM.BX (R107). -/
def bxOf (w : Word) : BxForm := { cond := condOf w, rm := regAt w 0 }

/-- Fields of ARM.SWI (R113). -/
def swiOf (w : Word) : SwiForm := { cond := condOf w, comment24 := w.extractLsb' 0 24 }

/-! ### The fields of a laid-out word -/

theorem dpImmOf_encodeDpImm (op : DpOp) (f : DpImm) : dpImmOf (encodeDpImm op f) = f := by
  simp [-BitVec.getLsbD_eq_getElem, dpImmOf, encodeDpImm, condOf, regAt]

theorem dpRegImmOf_encodeDpRegImm (op : DpOp) (f : DpRegImm) : dpRegImmOf (encodeDpRegImm op f) = f := by
  simp [-BitVec.getLsbD_eq_getElem, dpRegImmOf, encodeDpRegImm, condOf, regAt, shiftTypeOf]

theorem dpRegRegOf_encodeDpRegReg (op : DpOp) (f : DpRegReg) : dpRegRegOf (encodeDpRegReg op f) = f := by
  simp [-BitVec.getLsbD_eq_getElem, dpRegRegOf, encodeDpRegReg, condOf, regAt, shiftTypeOf]

theorem mrsOf_encodeMrs (f : MrsForm) : mrsOf (encodeMrs f) = f := by
  simp [-BitVec.getLsbD_eq_getElem, mrsOf, encodeMrs, condOf, regAt]

theorem msrRegOf_encodeMsrReg (f : MsrReg) : msrRegOf (encodeMsrReg f) = f := by
  simp [-BitVec.getLsbD_eq_getElem, msrRegOf, encodeMsrReg, condOf, regAt, fieldMaskOf, FieldMask.bits]

theorem msrImmOf_encodeMsrImm (f : MsrImm) : msrImmOf (encodeMsrImm f) = f := by
  simp [-BitVec.getLsbD_eq_getElem, msrImmOf, encodeMsrImm, condOf, fieldMaskOf, FieldMask.bits]

theorem mulOf_encodeMul (a : Bool) (f : MulForm) : mulOf (encodeMul a f) = f := by
  simp [-BitVec.getLsbD_eq_getElem, mulOf, encodeMul, condOf, regAt]

theorem mulLongOf_encodeMulLong (u a : Bool) (f : MulLong) : mulLongOf (encodeMulLong u a f) = f := by
  simp [-BitVec.getLsbD_eq_getElem, mulLongOf, encodeMulLong, condOf, regAt]

theorem swpOf_encodeSwp (b : Bool) (f : SwpForm) : swpOf (encodeSwp b f) = f := by
  simp [swpOf, encodeSwp, condOf, regAt]

theorem bxOf_encodeBx (f : BxForm) : bxOf (encodeBx f) = f := by
  simp [bxOf, encodeBx, condOf, regAt]

theorem hdtRegOf_encodeHdtReg (l : Bool) (sh : BitVec 2) (f : HdtReg) : hdtRegOf (encodeHdtReg l sh f) = f := by
  simp [-BitVec.getLsbD_eq_getElem, hdtRegOf, encodeHdtReg, condOf, regAt]

theorem hdtImmOf_encodeHdtImm (l : Bool) (sh : BitVec 2) (f : HdtImm) : hdtImmOf (encodeHdtImm l sh f) = f := by
  simp [-BitVec.getLsbD_eq_getElem, hdtImmOf, encodeHdtImm, condOf, regAt]

theorem sdtImmOf_encodeSdtImm (p b l : Bool) (f : SdtImm) : sdtImmOf (encodeSdtImm p b l f) = f := by
  simp [-BitVec.getLsbD_eq_getElem, sdtImmOf, encodeSdtImm, condOf, regAt]

theorem sdtRegOf_encodeSdtReg (p b l : Bool) (f : SdtReg) : sdtRegOf (encodeSdtReg p b l f) = f := by
  simp [-BitVec.getLsbD_eq_getElem, sdtRegOf, encodeSdtReg, condOf, regAt, shiftTypeOf]

theorem bdtOf_encodeBdt (l : Bool) (f : BdtForm) : bdtOf (encodeBdt l f) = f := by
  simp [-BitVec.getLsbD_eq_getElem, bdtOf, encodeBdt, condOf, regAt]

theorem branchOf_encodeBranch (l : Bool) (f : BranchForm) : branchOf (encodeBranch l f) = f := by
  simp [branchOf, encodeBranch, condOf]

theorem cdtOf_encodeCdt (l : Bool) (f : CdtForm) : cdtOf (encodeCdt l f) = f := by
  simp [-BitVec.getLsbD_eq_getElem, cdtOf, encodeCdt, condOf, regAt]

theorem cdoOf_encodeCdo (f : CdoForm) : cdoOf (encodeCdo f) = f := by
  simp [cdoOf, encodeCdo, condOf]

theorem crtOf_encodeCrt (l : Bool) (f : CrtForm) : crtOf (encodeCrt l f) = f := by
  simp [crtOf, encodeCrt, condOf, regAt]

theorem swiOf_encodeSwi (f : SwiForm) : swiOf (encodeSwi f) = f := by
  simp [swiOf, encodeSwi, condOf]

/-! ### The word of its own fields -/

section
variable {w : Word}

theorem encodeDpImm_dpImmOf {op : DpOp} (form : w.extractLsb' 25 3 = 0b001#3) (opcode : w.extractLsb' 21 4 = op.bits) :
    encodeDpImm op (dpImmOf w) = w := by
  simp only [encodeDpImm, dpImmOf, regAt, bits_condOf, bit1_getLsbD, ← form, ← opcode, append_fields]
  exact BitVec.extractLsb'_eq_self

theorem encodeDpRegImm_dpRegImmOf {op : DpOp} (form : w.extractLsb' 25 3 = 0b000#3)
    (opcode : w.extractLsb' 21 4 = op.bits) (bit4 : w.extractLsb' 4 1 = 0#1) :
    encodeDpRegImm op (dpRegImmOf w) = w := by
  simp only [encodeDpRegImm, dpRegImmOf, regAt, bits_condOf, bits_shiftTypeOf, bit1_getLsbD, ← form, ← opcode, ← bit4,
    append_fields]
  exact BitVec.extractLsb'_eq_self

theorem encodeDpRegReg_dpRegRegOf {op : DpOp} (form : w.extractLsb' 25 3 = 0b000#3)
    (opcode : w.extractLsb' 21 4 = op.bits) (bit7 : w.extractLsb' 7 1 = 0#1) (bit4 : w.extractLsb' 4 1 = 1#1) :
    encodeDpRegReg op (dpRegRegOf w) = w := by
  simp only [encodeDpRegReg, dpRegRegOf, regAt, bits_condOf, bits_shiftTypeOf, bit1_getLsbD, ← form, ← opcode, ← bit7,
    ← bit4, append_fields]
  exact BitVec.extractLsb'_eq_self

theorem encodeMrs_mrsOf (high : w.extractLsb' 23 5 = 0b00010#5) (bits20 : w.extractLsb' 20 2 = 0b00#2)
    (bits16 : w.extractLsb' 16 4 = 0b1111#4) (low : w.extractLsb' 0 12 = 0x000#12) : encodeMrs (mrsOf w) = w := by
  simp only [encodeMrs, mrsOf, regAt, bits_condOf, bit1_getLsbD, ← high, ← bits20, ← bits16, ← low, append_fields]
  exact BitVec.extractLsb'_eq_self

theorem encodeMsrReg_msrRegOf (high : w.extractLsb' 23 5 = 0b00010#5) (bits20 : w.extractLsb' 20 2 = 0b10#2)
    (bits12 : w.extractLsb' 12 4 = 0b1111#4) (bits4 : w.extractLsb' 4 8 = 0x00#8) :
    encodeMsrReg (msrRegOf w) = w := by
  simp only [encodeMsrReg, msrRegOf, regAt, bits_condOf, bits_fieldMaskOf, bit1_getLsbD, ← high, ← bits20, ← bits12,
    ← bits4, append_fields]
  exact BitVec.extractLsb'_eq_self

theorem encodeMsrImm_msrImmOf (high : w.extractLsb' 23 5 = 0b00110#5) (bits20 : w.extractLsb' 20 2 = 0b10#2)
    (bits12 : w.extractLsb' 12 4 = 0b1111#4) : encodeMsrImm (msrImmOf w) = w := by
  simp only [encodeMsrImm, msrImmOf, bits_condOf, bits_fieldMaskOf, bit1_getLsbD, ← high, ← bits20, ← bits12,
    append_fields]
  exact BitVec.extractLsb'_eq_self

theorem encodeMul_mulOf (high : w.extractLsb' 22 6 = 0b000000#6) (bits4 : w.extractLsb' 4 4 = 0b1001#4) :
    encodeMul (w.getLsbD 21) (mulOf w) = w := by
  simp only [encodeMul, mulOf, regAt, bits_condOf, bit1_getLsbD, ← high, ← bits4, append_fields]
  exact BitVec.extractLsb'_eq_self

theorem encodeMulLong_mulLongOf (high : w.extractLsb' 23 5 = 0b00001#5) (bits4 : w.extractLsb' 4 4 = 0b1001#4) :
    encodeMulLong (w.getLsbD 22) (w.getLsbD 21) (mulLongOf w) = w := by
  simp only [encodeMulLong, mulLongOf, regAt, bits_condOf, bit1_getLsbD, ← high, ← bits4, append_fields]
  exact BitVec.extractLsb'_eq_self

theorem encodeSwp_swpOf (high : w.extractLsb' 23 5 = 0b00010#5) (bits20 : w.extractLsb' 20 2 = 0b00#2)
    (bits4 : w.extractLsb' 4 8 = 0x09#8) : encodeSwp (w.getLsbD 22) (swpOf w) = w := by
  simp only [encodeSwp, swpOf, regAt, bits_condOf, bit1_getLsbD, ← high, ← bits20, ← bits4, append_fields]
  exact BitVec.extractLsb'_eq_self

theorem encodeBx_bxOf (bits4 : w.extractLsb' 4 24 = 0x12FFF1#24) : encodeBx (bxOf w) = w := by
  simp only [encodeBx, bxOf, regAt, bits_condOf, ← bits4, append_fields]
  exact BitVec.extractLsb'_eq_self

/-- The fields of the two halfword formats, in their order. -/
theorem halfword_fields (w : Word) :
    w.extractLsb' 28 4 ++ w.extractLsb' 25 3 ++ w.extractLsb' 24 1 ++ w.extractLsb' 23 1 ++ w.extractLsb' 22 1 ++
      w.extractLsb' 21 1 ++ w.extractLsb' 20 1 ++ w.extractLsb' 16 4 ++ w.extractLsb' 12 4 ++ w.extractLsb' 8 4 ++
      w.extractLsb' 7 1 ++ w.extractLsb' 5 2 ++ w.extractLsb' 4 1 ++ w.extractLsb' 0 4 = w := by
  simp only [append_fields]
  exact BitVec.extractLsb'_eq_self

theorem encodeHdtReg_hdtRegOf (form : w.extractLsb' 25 3 = 0b000#3) (bit22 : w.extractLsb' 22 1 = 0#1)
    (bit7 : w.extractLsb' 7 1 = 1#1) (bit4 : w.extractLsb' 4 1 = 1#1) :
    encodeHdtReg (w.getLsbD 20) (w.extractLsb' 5 2) (hdtRegOf w) = w := by
  refine Eq.trans ?_ (halfword_fields w)
  simp only [encodeHdtReg, hdtRegOf, regAt, bits_condOf, bit1_getLsbD, form, bit22, bit7, bit4]

theorem encodeHdtImm_hdtImmOf (form : w.extractLsb' 25 3 = 0b000#3) (bit22 : w.extractLsb' 22 1 = 1#1)
    (bit7 : w.extractLsb' 7 1 = 1#1) (bit4 : w.extractLsb' 4 1 = 1#1) :
    encodeHdtImm (w.getLsbD 20) (w.extractLsb' 5 2) (hdtImmOf w) = w := by
  refine Eq.trans ?_ (halfword_fields w)
  simp only [encodeHdtImm, hdtImmOf, regAt, bits_condOf, bit1_getLsbD, form, bit22, bit7, bit4]

theorem encodeSdtImm_sdtImmOf (form : w.extractLsb' 25 3 = 0b010#3) :
    encodeSdtImm (w.getLsbD 24) (w.getLsbD 22) (w.getLsbD 20) (sdtImmOf w) = w := by
  simp only [encodeSdtImm, sdtImmOf, regAt, bits_condOf, bit1_getLsbD, ← form, append_fields]
  exact BitVec.extractLsb'_eq_self

theorem encodeSdtReg_sdtRegOf (form : w.extractLsb' 25 3 = 0b011#3) (bit4 : w.extractLsb' 4 1 = 0#1) :
    encodeSdtReg (w.getLsbD 24) (w.getLsbD 22) (w.getLsbD 20) (sdtRegOf w) = w := by
  simp only [encodeSdtReg, sdtRegOf, regAt, bits_condOf, bits_shiftTypeOf, bit1_getLsbD, ← form, ← bit4, append_fields]
  exact BitVec.extractLsb'_eq_self

theorem encodeBdt_bdtOf (form : w.extractLsb' 25 3 = 0b100#3) : encodeBdt (w.getLsbD 20) (bdtOf w) = w := by
  simp only [encodeBdt, bdtOf, regAt, bits_condOf, bit1_getLsbD, ← form, append_fields]
  exact BitVec.extractLsb'_eq_self

theorem encodeBranch_branchOf (form : w.extractLsb' 25 3 = 0b101#3) :
    encodeBranch (w.getLsbD 24) (branchOf w) = w := by
  simp only [encodeBranch, branchOf, bits_condOf, bit1_getLsbD, ← form, append_fields]
  exact BitVec.extractLsb'_eq_self

theorem encodeSwi_swiOf (form : w.extractLsb' 24 4 = 0b1111#4) : encodeSwi (swiOf w) = w := by
  simp only [encodeSwi, swiOf, bits_condOf, ← form, append_fields]
  exact BitVec.extractLsb'_eq_self

end

end Sys2Proof.Proofs
end

section
/-!
PROOF. The formats of the 16-bit encoding (spec/30_encoding.md R120 to R138), as those of the 32-bit encoding. The 3-bit
register fields hold low registers alone (R22).
-/

namespace Sys2Proof.Proofs

open Sys2Proof.Machine Sys2Proof.Claims

/-! ### Register fields -/

/-- A low register is its 3-bit field. -/
theorem zero_append_low3 {r : Reg} (low : Reg.isLow r = true) : 0#1 ++ low3 r = r := by revert r; decide

@[simp] theorem low3_lowRegAt (h : Half) (lo : Nat) : low3 (lowRegAt h lo) = h.extractLsb' lo 3 := by
  simp [low3, lowRegAt]

/-- Any register is its high bit before its 3-bit field (R124). -/
@[simp] theorem high_append_low3 (r : Reg) : r.extractLsb' 3 1 ++ low3 r = r := by revert r; decide

/-! ### The formats the decoder cuts in place -/

/-- Fields of format 2 with a register (R121). -/
def tAddSubRegOf (h : Half) : TAddSubReg := { rn := lowRegAt h 6, rs := lowRegAt h 3, rd := lowRegAt h 0 }

/-- Fields of format 2 with an immediate (R121). -/
def tAddSubImmOf (h : Half) : TAddSubImm := { offset3 := h.extractLsb' 6 3, rs := lowRegAt h 3, rd := lowRegAt h 0 }

/-- Fields of format 5, BX (R124). -/
def tBxOf (h : Half) : TBxForm := { rs := h.extractLsb' 6 1 ++ h.extractLsb' 3 3 }

/-! ### The fields of a laid-out halfword -/

theorem tShiftOf_encodeTShift (op : BitVec 2) (f : TShift) (low : (Reg.isLow f.rs && Reg.isLow f.rd) = true) :
    tShiftOf (encodeTShift op f) = f := by
  simp_all [tShiftOf, encodeTShift, lowRegAt, zero_append_low3]

theorem tAddSubRegOf_encodeTAddSubReg (sub : Bool) (f : TAddSubReg)
    (low : (Reg.isLow f.rn && Reg.isLow f.rs && Reg.isLow f.rd) = true) :
    tAddSubRegOf (encodeTAddSubReg sub f) = f := by
  simp_all [tAddSubRegOf, encodeTAddSubReg, lowRegAt, zero_append_low3]

theorem tAddSubImmOf_encodeTAddSubImm (sub : Bool) (f : TAddSubImm) (low : (Reg.isLow f.rs && Reg.isLow f.rd) = true) :
    tAddSubImmOf (encodeTAddSubImm sub f) = f := by
  simp_all [tAddSubImmOf, encodeTAddSubImm, lowRegAt, zero_append_low3]

theorem tImm8Of_encodeTImm8 (op : BitVec 2) (f : TImm8) (low : Reg.isLow f.rd = true) :
    tImm8Of (encodeTImm8 op f) = f := by
  simp [tImm8Of, encodeTImm8, lowRegAt, zero_append_low3 low]

theorem tAluOf_encodeTAlu (op : BitVec 4) (f : TAlu) (low : (Reg.isLow f.rs && Reg.isLow f.rd) = true) :
    tAluOf (encodeTAlu op f) = f := by
  simp_all [tAluOf, encodeTAlu, lowRegAt, zero_append_low3]

theorem tHighOf_encodeTHigh (op : BitVec 2) (f : THigh) : tHighOf (encodeTHigh op f) = f := by
  simp [tHighOf, encodeTHigh]

theorem tBxOf_encodeTBx (f : TBxForm) : tBxOf (encodeTBx f) = f := by
  simp [tBxOf, encodeTBx]

theorem tRdWord8Of_encodeTRdWord8 (op : BitVec 5) (f : TRdWord8) (low : Reg.isLow f.rd = true) :
    tRdWord8Of (encodeTRdWord8 op f) = f := by
  simp [tRdWord8Of, encodeTRdWord8, lowRegAt, zero_append_low3 low]

theorem tRegOffOf_encodeTRegOff (op : BitVec 7) (f : TRegOff)
    (low : (Reg.isLow f.ro && Reg.isLow f.rb && Reg.isLow f.rd) = true) :
    tRegOffOf (encodeTRegOff op f) = f := by
  simp_all [tRegOffOf, encodeTRegOff, lowRegAt, zero_append_low3]

theorem tImmOffOf_encodeTImmOff (op : BitVec 5) (f : TImmOff) (low : (Reg.isLow f.rb && Reg.isLow f.rd) = true) :
    tImmOffOf (encodeTImmOff op f) = f := by
  simp_all [tImmOffOf, encodeTImmOff, lowRegAt, zero_append_low3]

theorem tPushPopOf_encodeTPushPop (l : Bool) (f : TPushPop) : tPushPopOf (encodeTPushPop l f) = f := by
  simp [-BitVec.getLsbD_eq_getElem, tPushPopOf, encodeTPushPop]

theorem tBlockOf_encodeTBlock (l : Bool) (f : TBlock) (low : Reg.isLow f.rb = true) :
    tBlockOf (encodeTBlock l f) = f := by
  simp [tBlockOf, encodeTBlock, lowRegAt, zero_append_low3 low]

/-! ### The halfword of its own fields -/

section
variable {h : Half}

theorem encodeTShift_tShiftOf {op : BitVec 2} (form : h.extractLsb' 13 3 = 0b000#3) (opcode : h.extractLsb' 11 2 = op) :
    encodeTShift op (tShiftOf h) = h := by
  simp only [encodeTShift, tShiftOf, low3_lowRegAt, ← form, ← opcode, append_adjacent]
  exact BitVec.extractLsb'_eq_self

theorem encodeTAddSubReg_tAddSubRegOf (form : h.extractLsb' 10 6 = 0b000110#6) :
    encodeTAddSubReg (h.getLsbD 9) (tAddSubRegOf h) = h := by
  simp only [encodeTAddSubReg, tAddSubRegOf, low3_lowRegAt, bit1_eq_extractLsb', ← form, append_adjacent]
  exact BitVec.extractLsb'_eq_self

theorem encodeTAddSubImm_tAddSubImmOf (form : h.extractLsb' 10 6 = 0b000111#6) :
    encodeTAddSubImm (h.getLsbD 9) (tAddSubImmOf h) = h := by
  simp only [encodeTAddSubImm, tAddSubImmOf, low3_lowRegAt, bit1_eq_extractLsb', ← form, append_adjacent]
  exact BitVec.extractLsb'_eq_self

theorem encodeTImm8_tImm8Of {op : BitVec 2} (form : h.extractLsb' 13 3 = 0b001#3) (opcode : h.extractLsb' 11 2 = op) :
    encodeTImm8 op (tImm8Of h) = h := by
  simp only [encodeTImm8, tImm8Of, low3_lowRegAt, ← form, ← opcode, append_adjacent]
  exact BitVec.extractLsb'_eq_self

theorem encodeTAlu_tAluOf {op : BitVec 4} (form : h.extractLsb' 10 6 = 0b010000#6) (opcode : h.extractLsb' 6 4 = op) :
    encodeTAlu op (tAluOf h) = h := by
  simp only [encodeTAlu, tAluOf, low3_lowRegAt, ← form, ← opcode, append_adjacent]
  exact BitVec.extractLsb'_eq_self

theorem high_and_low3_append (a : BitVec 1) (b : BitVec 3) : (a ++ b).extractLsb' 3 1 = a ∧ low3 (a ++ b) = b := by
  simp [low3]

theorem encodeTHigh_tHighOf {op : BitVec 2} (form : h.extractLsb' 10 6 = 0b010001#6) (opcode : h.extractLsb' 8 2 = op) :
    encodeTHigh op (tHighOf h) = h := by
  simp only [encodeTHigh, tHighOf, high_and_low3_append]
  simp only [← form, ← opcode, append_adjacent]
  exact BitVec.extractLsb'_eq_self

theorem encodeTBx_tBxOf (form : h.extractLsb' 7 9 = 0b010001110#9) (low : h.extractLsb' 0 3 = 0b000#3) :
    encodeTBx (tBxOf h) = h := by
  simp only [encodeTBx, tBxOf, high_and_low3_append]
  simp only [← form, ← low, append_adjacent]
  exact BitVec.extractLsb'_eq_self

theorem encodeTRdWord8_tRdWord8Of {op : BitVec 5} (opcode : h.extractLsb' 11 5 = op) :
    encodeTRdWord8 op (tRdWord8Of h) = h := by
  simp only [encodeTRdWord8, tRdWord8Of, low3_lowRegAt, ← opcode, append_adjacent]
  exact BitVec.extractLsb'_eq_self

theorem encodeTRegOff_tRegOffOf {op : BitVec 7} (opcode : h.extractLsb' 9 7 = op) :
    encodeTRegOff op (tRegOffOf h) = h := by
  simp only [encodeTRegOff, tRegOffOf, low3_lowRegAt, ← opcode, append_adjacent]
  exact BitVec.extractLsb'_eq_self

theorem encodeTImmOff_tImmOffOf {op : BitVec 5} (opcode : h.extractLsb' 11 5 = op) :
    encodeTImmOff op (tImmOffOf h) = h := by
  simp only [encodeTImmOff, tImmOffOf, low3_lowRegAt, ← opcode, append_adjacent]
  exact BitVec.extractLsb'_eq_self

theorem encodeTPushPop_tPushPopOf (form : h.extractLsb' 12 4 = 0b1011#4) (bits9 : h.extractLsb' 9 2 = 0b10#2) :
    encodeTPushPop (h.getLsbD 11) (tPushPopOf h) = h := by
  simp only [encodeTPushPop, tPushPopOf, bit1_eq_extractLsb', ← form, ← bits9, append_adjacent]
  exact BitVec.extractLsb'_eq_self

theorem encodeTBlock_tBlockOf (form : h.extractLsb' 12 4 = 0b1100#4) :
    encodeTBlock (h.getLsbD 11) (tBlockOf h) = h := by
  simp only [encodeTBlock, tBlockOf, low3_lowRegAt, bit1_eq_extractLsb', ← form, append_adjacent]
  exact BitVec.extractLsb'_eq_self

theorem encodeTBranch_soffset8 {c : Cond} (form : h.extractLsb' 12 4 = 0b1101#4) (cond : h.extractLsb' 8 4 = c.bits) :
    encodeTBranch c (h.extractLsb' 0 8) = h := by
  simp only [encodeTBranch, ← form, ← cond, append_adjacent]
  exact BitVec.extractLsb'_eq_self

/-- The formats of an opcode and one operand (R132, R136 to R138). -/
theorem opcode_append_operand {n m : Nat} {h : BitVec (n + m)} {op : BitVec n} (opcode : h.extractLsb' m n = op) :
    op ++ h.extractLsb' 0 m = h := by
  rw [← opcode, append_adjacent h (Nat.zero_add m).symm]
  exact BitVec.extractLsb'_eq_self

end

end Sys2Proof.Proofs
end

section
/-!
PROOF. What a word decodes to encodes to that word: each branch of the two decoders (spec/30_encoding.md R115, R139) tests
the bits that the format it answers lays down as opcode, and cuts all others.
-/

namespace Sys2Proof.Proofs

open Sys2Proof.Machine Sys2Proof.Claims

/-! ### The 32-bit decoder -/

section
variable {w : Word} {i : Instr}

theorem encode_dpImmInstr (op : DpOp) (f : DpImm) : encode (dpImmInstr op f) = .arm (encodeDpImm op f) := by
  cases op <;> rfl

theorem encode_dpRegImmInstr (op : DpOp) (f : DpRegImm) : encode (dpRegImmInstr op f) = .arm (encodeDpRegImm op f) := by
  cases op <;> rfl

theorem encode_dpRegRegInstr (op : DpOp) (f : DpRegReg) : encode (dpRegRegInstr op f) = .arm (encodeDpRegReg op f) := by
  cases op <;> rfl

theorem bit1_of {k : Nat} {b : Bool} (h : w.getLsbD k = b) : w.extractLsb' k 1 = bit1 b := by
  rw [← bit1_getLsbD, h]

/-- The 3-bit class field of R103 from its parts. -/
theorem form_of_class {c : BitVec 2} {b : Bool} (class2 : w.extractLsb' 26 2 = c) (bit25 : w.getLsbD 25 = b) :
    w.extractLsb' 25 3 = c ++ bit1 b := by
  rw [← class2, ← bit25, append_bit]

/-- A bit that the decoder tests and the encoder lays down again. -/
theorem encode_of_bit {b : Bool} {yes no : Instr} (lay : Bool → Word)
    (h : (if b = true then some yes else some no) = some i) (hyes : encode yes = .arm (lay true))
    (hno : encode no = .arm (lay false)) (word : lay b = w) : encode i = .arm w := by
  cases b <;> cases h
  · rw [hno, word]
  · rw [hyes, word]

theorem encode_decodeDataProcessing (class00 : w.extractLsb' 26 2 = 0b00#2)
    (notExtension : ¬ (!w.getLsbD 25 && w.getLsbD 7 && w.getLsbD 4) = true) :
    encode (decodeDataProcessing w) = .arm w := by
  have form := form_of_class class00 rfl
  unfold decodeDataProcessing
  simp only
  split
  · next bit25 =>
    rw [bit25] at form
    rw [encode_dpImmInstr, encodeDpImm_dpImmOf form (dpOp_bits_ofBits _).symm]
  next bit25 =>
  have bit25 : w.getLsbD 25 = false := Bool.eq_false_of_not_eq_true bit25
  rw [bit25] at form
  split
  · next bit4 =>
    have bit7 : w.getLsbD 7 = false := by
      simpa only [bit25, bit4, Bool.not_false, Bool.true_and, Bool.and_true, Bool.not_eq_true] using notExtension
    rw [encode_dpRegRegInstr, encodeDpRegReg_dpRegRegOf form (dpOp_bits_ofBits _).symm (bit1_of bit7) (bit1_of bit4)]
  · next bit4 =>
    rw [encode_dpRegImmInstr, encodeDpRegImm_dpRegImmOf form (dpOp_bits_ofBits _).symm
      (bit1_of (Bool.eq_false_of_not_eq_true bit4))]

theorem encode_of_decodePsr (h : decodePsr w = some i) : encode i = .arm w := by
  unfold decodePsr at h
  split at h
  · next mrs =>
    have m := beq_iff_eq.1 mrs
    cases h
    exact congrArg Encoding.arm (encodeMrs_mrsOf (field_of_match m 23 5 rfl) (field_of_match m 20 2 rfl)
      (field_of_match m 16 4 rfl) (field_of_match m 0 12 rfl))
  split at h
  · next msrReg =>
    have m := beq_iff_eq.1 msrReg
    cases h
    exact congrArg Encoding.arm (encodeMsrReg_msrRegOf (field_of_match m 23 5 rfl) (field_of_match m 20 2 rfl)
      (field_of_match m 12 4 rfl) (field_of_match m 4 8 rfl))
  split at h
  · next msrImm =>
    have m := beq_iff_eq.1 msrImm
    cases h
    exact congrArg Encoding.arm (encodeMsrImm_msrImmOf (field_of_match m 23 5 rfl) (field_of_match m 20 2 rfl)
      (field_of_match m 12 4 rfl))
  · cases h

/-- Bits 7 to 4 of the multiply, swap and halfword space (R103). -/
theorem bits4_of_extension (bit7 : w.getLsbD 7 = true) (bit4 : w.getLsbD 4 = true) :
    w.extractLsb' 4 4 = 1#1 ++ w.extractLsb' 5 2 ++ 1#1 := by
  have high := append_adjacent w (len₁ := 1) (show 7 = 5 + 2 from rfl)
  have whole := append_adjacent w (len₁ := 3) (show 5 = 4 + 1 from rfl)
  rw [bit1_of bit7] at high
  rw [← high, bit1_of bit4] at whole
  exact whole.symm

theorem bits5_eq (w : Word) : w.extractLsb' 5 2 = bit1 (w.getLsbD 6) ++ bit1 (w.getLsbD 5) := by
  rw [bit1_getLsbD w 6, append_bit]

/-- A halfword transfer with bit 6 clear is of kind H, not of kind 00 (R108). -/
theorem bit5_of_transfer (transfer : ¬ (w.extractLsb' 5 2 == 0b00#2) = true) (bit6 : w.getLsbD 6 = false) :
    w.getLsbD 5 = true := by
  rw [bits5_eq, bit6] at transfer
  cases bit5 : w.getLsbD 5 with
  | true => rfl
  | false => rw [bit5] at transfer; exact absurd rfl transfer

theorem encode_of_decodeExtension (h : decodeExtension w = some i) (form : w.extractLsb' 25 3 = 0b000#3)
    (bit7 : w.getLsbD 7 = true) (bit4 : w.getLsbD 4 = true) : encode i = .arm w := by
  have bits4 := bits4_of_extension bit7 bit4
  unfold decodeExtension at h
  split at h
  · next multiplies =>
    rw [beq_iff_eq.1 multiplies] at bits4
    split at h
    · next high =>
      exact encode_of_bit (encodeMul · (mulOf w)) h rfl rfl (encodeMul_mulOf (beq_iff_eq.1 high) bits4)
    split at h
    · next high =>
      have word := congrArg Encoding.arm (encodeMulLong_mulLongOf (beq_iff_eq.1 high) bits4)
      revert h word
      cases w.getLsbD 22 <;> cases w.getLsbD 21 <;> rintro ⟨⟩ word <;> exact word
    split at h
    · next swp =>
      have m := beq_iff_eq.1 swp
      exact encode_of_bit (encodeSwp · (swpOf w)) h rfl rfl
        (encodeSwp_swpOf (field_of_match m 23 5 rfl) (field_of_match m 20 2 rfl) (field_of_match m 4 8 rfl))
    · cases h
  next transfers =>
  have bit5 := bit5_of_transfer transfers
  have reg := fun bit22 => congrArg Encoding.arm (encodeHdtReg_hdtRegOf (w := w) form bit22 (bit1_of bit7) (bit1_of bit4))
  have imm := fun bit22 => congrArg Encoding.arm (encodeHdtImm_hdtImmOf (w := w) form bit22 (bit1_of bit7) (bit1_of bit4))
  rw [bits5_eq] at reg imm
  split at h
  · next bit20 =>
    rw [bit20] at reg imm
    split at h
    · next bit6 bit22 => cases h; rw [bit6, bit5 bit6] at reg; exact reg (bit1_of bit22)
    · next bit6 bit22 => cases h; rw [bit6, bit5 bit6] at imm; exact imm (bit1_of bit22)
    · next bit6 bit5 bit22 => cases h; rw [bit6, bit5] at reg; exact reg (bit1_of bit22)
    · next bit6 bit5 bit22 => cases h; rw [bit6, bit5] at imm; exact imm (bit1_of bit22)
    · next bit6 bit5 bit22 => cases h; rw [bit6, bit5] at reg; exact reg (bit1_of bit22)
    · next bit6 bit5 bit22 => cases h; rw [bit6, bit5] at imm; exact imm (bit1_of bit22)
  next bit20 =>
  rw [Bool.eq_false_of_not_eq_true bit20] at reg imm
  split at h
  · cases h
  next bit6 =>
  have bit6 := Bool.eq_false_of_not_eq_true bit6
  rw [bit6, bit5 bit6] at reg imm
  split at h
  · next bit22 => cases h; exact imm (bit1_of bit22)
  · next bit22 => cases h; exact reg (bit1_of (Bool.eq_false_of_not_eq_true bit22))

theorem encode_decodeSdtImm (form : w.extractLsb' 25 3 = 0b010#3) : encode (decodeSdtImm w) = .arm w := by
  refine Eq.trans ?_ (congrArg Encoding.arm (encodeSdtImm_sdtImmOf form))
  unfold decodeSdtImm
  cases w.getLsbD 22 <;> cases w.getLsbD 20 <;> cases w.getLsbD 24 <;> cases w.getLsbD 21 <;> rfl

theorem encode_decodeSdtReg (form : w.extractLsb' 25 3 = 0b011#3) (bit4 : w.getLsbD 4 = false) :
    encode (decodeSdtReg w) = .arm w := by
  refine Eq.trans ?_ (congrArg Encoding.arm (encodeSdtReg_sdtRegOf form (bit1_of bit4)))
  unfold decodeSdtReg
  cases w.getLsbD 22 <;> cases w.getLsbD 20 <;> cases w.getLsbD 24 <;> cases w.getLsbD 21 <;> rfl

theorem encode_of_decodeArm (h : decodeArm w = some i) : encode i = .arm w := by
  unfold decodeArm at h
  split at h
  · cases h
  split at h
  · next bx => cases h; exact congrArg Encoding.arm (encodeBx_bxOf (field_of_match (beq_iff_eq.1 bx) 4 24 rfl))
  split at h
  · next class00 =>
    have class00 := beq_iff_eq.1 class00
    split at h
    · next extension =>
      simp only [Bool.and_eq_true, Bool.not_eq_true'] at extension
      obtain ⟨⟨bit25, bit7⟩, bit4⟩ := extension
      exact encode_of_decodeExtension h (form_of_class class00 bit25) bit7 bit4
    · next notExtension =>
      split at h
      · exact encode_of_decodePsr h
      · cases h; exact encode_decodeDataProcessing class00 notExtension
  next h00 =>
  split at h
  · next class01 =>
    have class01 := beq_iff_eq.1 class01
    split at h
    · next bit25 =>
      have bit25 : w.getLsbD 25 = false := by simpa using bit25
      cases h
      exact encode_decodeSdtImm (form_of_class class01 bit25)
    next bit25 =>
    have bit25 : w.getLsbD 25 = true := by simpa using bit25
    split at h
    · cases h
    · next bit4 =>
      cases h
      exact encode_decodeSdtReg (form_of_class class01 bit25)
        (Bool.eq_false_of_not_eq_true bit4)
  next h01 =>
  split at h
  · next form => exact encode_of_bit (encodeBdt · (bdtOf w)) h rfl rfl (encodeBdt_bdtOf (beq_iff_eq.1 form))
  next h100 =>
  split at h
  · next form => exact encode_of_bit (encodeBranch · (branchOf w)) h rfl rfl (encodeBranch_branchOf (beq_iff_eq.1 form))
  next h101 =>
  split at h
  · next form => exact encode_of_bit (encodeCdt · (cdtOf w)) h rfl rfl (encodeCdt_cdtOf (beq_iff_eq.1 form))
  next h110 =>
  split at h
  · next form => cases h; exact congrArg Encoding.arm (encodeSwi_swiOf (beq_iff_eq.1 form))
  next h1111 =>
  simp only [beq_iff_eq] at h00 h01 h100 h101 h110 h1111
  have form := coprocessor_class h00 h01 h100 h101 h110 h1111
  split at h
  · next clear =>
    have bit4 : w.getLsbD 4 = false := by simpa using clear
    cases h
    exact congrArg Encoding.arm (encodeCdo_cdoOf form (bit1_of bit4))
  · next set =>
    have bit4 : w.getLsbD 4 = true := by simpa using set
    exact encode_of_bit (encodeCrt · (crtOf w)) h rfl rfl (encodeCrt_crtOf form (bit1_of bit4))

end

/-! ### The 16-bit decoder -/

section
variable {h : Half} {i : Instr}

/-- A bit that the decoder tests and the encoder lays down again. -/
theorem encode_of_thumb_bit {b : Bool} {yes no : Instr} (lay : Bool → Half)
    (hi : (if b = true then some yes else some no) = some i) (hyes : encode yes = .thumb (lay true))
    (hno : encode no = .thumb (lay false)) (word : lay b = h) : encode i = .thumb h := by
  cases b <;> cases hi
  · rw [hno, word]
  · rw [hyes, word]

theorem encode_decodeFormat1and2 (form : h.extractLsb' 13 3 = 0b000#3) : encode (decodeFormat1and2 h) = .thumb h := by
  have opcode : h.extractLsb' 11 2 = bit1 (h.getLsbD 12) ++ bit1 (h.getLsbD 11) := by
    rw [bit1_eq_extractLsb' h 12, append_bit]
  have shift := congrArg Encoding.thumb (encodeTShift_tShiftOf form opcode)
  have form10 : h.extractLsb' 10 6 = 0b000#3 ++ bit1 (h.getLsbD 12) ++ bit1 (h.getLsbD 11) ++ bit1 (h.getLsbD 10) := by
    rw [← form, append_bit, append_bit, append_bit]
  unfold decodeFormat1and2
  split
  case h_4 bit12 bit11 =>
    rw [bit12, bit11] at form10
    cases bit10 : h.getLsbD 10 with
    | false =>
      rw [bit10] at form10
      refine Eq.trans ?_ (congrArg Encoding.thumb (encodeTAddSubReg_tAddSubRegOf form10))
      cases h.getLsbD 9 <;> rfl
    | true =>
      rw [bit10] at form10
      refine Eq.trans ?_ (congrArg Encoding.thumb (encodeTAddSubImm_tAddSubImmOf form10))
      cases h.getLsbD 9 <;> rfl
  all_goals next bit12 bit11 => rw [bit12, bit11] at shift; exact shift

theorem encode_decodeFormat3 (form : h.extractLsb' 13 3 = 0b001#3) : encode (decodeFormat3 h) = .thumb h := by
  have opcode : h.extractLsb' 11 2 = bit1 (h.getLsbD 12) ++ bit1 (h.getLsbD 11) := by
    rw [bit1_eq_extractLsb' h 12, append_bit]
  refine Eq.trans ?_ (congrArg Encoding.thumb (encodeTImm8_tImm8Of form opcode))
  unfold decodeFormat3
  cases h.getLsbD 12 <;> cases h.getLsbD 11 <;> rfl

theorem encode_decodeFormat4 (form : h.extractLsb' 10 6 = 0b010000#6) : encode (decodeFormat4 h) = .thumb h := by
  refine Eq.trans ?_ (congrArg Encoding.thumb (encodeTAlu_tAluOf form rfl))
  unfold decodeFormat4
  obtain ⟨⟨op, lt⟩⟩ := h.extractLsb' 6 4
  interval_cases op <;> rfl

theorem encode_of_decodeFormat5 (hi : decodeFormat5 h = some i) (form : h.extractLsb' 10 6 = 0b010001#6) :
    encode i = .thumb h := by
  have opcode : h.extractLsb' 8 2 = bit1 (h.getLsbD 9) ++ bit1 (h.getLsbD 8) := by
    rw [bit1_eq_extractLsb' h 9, append_bit]
  have high := congrArg Encoding.thumb (encodeTHigh_tHighOf form opcode)
  have form7 : h.extractLsb' 7 9 = 0b010001#6 ++ bit1 (h.getLsbD 9) ++ bit1 (h.getLsbD 8) ++ bit1 (h.getLsbD 7) := by
    rw [← form, append_bit, append_bit, append_bit]
  unfold decodeFormat5 at hi
  split at hi
  case h_4 bit9 bit8 =>
    split at hi
    · next reserved =>
      simp only [Bool.and_eq_true, Bool.not_eq_true', beq_iff_eq] at reserved
      obtain ⟨bit7, low⟩ := reserved
      cases hi
      rw [bit9, bit8, bit7] at form7
      exact congrArg Encoding.thumb (encodeTBx_tBxOf form7 low)
    · cases hi
  all_goals next bit9 bit8 => cases hi; rw [bit9, bit8] at high; exact high

theorem encode_decodeFormat7and8 (form : h.extractLsb' 12 4 = 0b0101#4) : encode (decodeFormat7and8 h) = .thumb h := by
  have opcode : h.extractLsb' 9 7 = 0b0101#4 ++ bit1 (h.getLsbD 11) ++ bit1 (h.getLsbD 10) ++ bit1 (h.getLsbD 9) := by
    rw [← form, append_bit, append_bit, append_bit]
  refine Eq.trans ?_ (congrArg Encoding.thumb (encodeTRegOff_tRegOffOf opcode))
  unfold decodeFormat7and8
  cases h.getLsbD 11 <;> cases h.getLsbD 10 <;> cases h.getLsbD 9 <;> rfl

theorem encode_decodeFormat9 (form : h.extractLsb' 13 3 = 0b011#3) : encode (decodeFormat9 h) = .thumb h := by
  have opcode : h.extractLsb' 11 5 = 0b011#3 ++ bit1 (h.getLsbD 12) ++ bit1 (h.getLsbD 11) := by
    rw [← form, append_bit, append_bit]
  refine Eq.trans ?_ (congrArg Encoding.thumb (encodeTImmOff_tImmOffOf opcode))
  unfold decodeFormat9
  cases h.getLsbD 12 <;> cases h.getLsbD 11 <;> rfl

theorem encode_of_decodeFormat13and14 (hi : decodeFormat13and14 h = some i) (form : h.extractLsb' 12 4 = 0b1011#4) :
    encode i = .thumb h := by
  unfold decodeFormat13and14 at hi
  split at hi
  · next zero =>
    have opcode : h.extractLsb' 7 9 = 0b1011#4 ++ 0b0000#4 ++ bit1 (h.getLsbD 7) := by
      rw [← form, ← beq_iff_eq.1 zero, append_adjacent h (show 12 = 8 + 4 from rfl), append_bit]
    refine encode_of_thumb_bit (fun b => 0b1011#4 ++ 0b0000#4 ++ bit1 b ++ h.extractLsb' 0 7) hi rfl rfl ?_
    exact opcode_append_operand opcode
  split at hi
  · next bits9 =>
    exact encode_of_thumb_bit (encodeTPushPop · (tPushPopOf h)) hi rfl rfl
      (encodeTPushPop_tPushPopOf form (beq_iff_eq.1 bits9))
  · cases hi

theorem encode_of_decodeFormat16and17 (hi : decodeFormat16and17 h = some i) (form : h.extractLsb' 12 4 = 0b1101#4) :
    encode i = .thumb h := by
  have word : 0b1101#4 ++ h.extractLsb' 8 4 ++ h.extractLsb' 0 8 = h := by
    rw [← form, append_adjacent h (show 12 = 8 + 4 from rfl)]
    exact opcode_append_operand rfl
  unfold decodeFormat16and17 at hi
  obtain ⟨cond, lt, field⟩ : ∃ n, n < 16 ∧ h.extractLsb' 8 4 = BitVec.ofNat 4 n :=
    ⟨(h.extractLsb' 8 4).toNat, (h.extractLsb' 8 4).isLt, by rw [BitVec.ofNat_toNat, BitVec.setWidth_eq]⟩
  rw [field] at hi word
  interval_cases cond <;> cases hi <;> exact congrArg Encoding.thumb word

/-- The fields of a format whose 5-bit opcode ends in a bit that the decoder tests. -/
theorem opcode5 {form : BitVec 4} (hf : h.extractLsb' 12 4 = form) :
    h.extractLsb' 11 5 = form ++ bit1 (h.getLsbD 11) := by
  rw [← hf, append_bit]

/-- Which branch of a test answered. -/
theorem answer_of_ite {c : Prop} [Decidable c] {a b : Option Instr} (hi : (if c then a else b) = some i) :
    (c ∧ a = some i) ∨ (¬ c ∧ b = some i) := by
  split at hi
  · next yes => exact .inl ⟨yes, hi⟩
  · next no => exact .inr ⟨no, hi⟩

theorem encode_of_decodeThumb (hi : decodeThumb h = some i) : encode i = .thumb h := by
  unfold decodeThumb at hi
  rcases answer_of_ite hi with ⟨form, hi⟩ | ⟨_, hi⟩
  · cases hi; exact encode_decodeFormat1and2 (beq_iff_eq.1 form)
  rcases answer_of_ite hi with ⟨form, hi⟩ | ⟨_, hi⟩
  · cases hi; exact encode_decodeFormat3 (beq_iff_eq.1 form)
  rcases answer_of_ite hi with ⟨form, hi⟩ | ⟨_, hi⟩
  · cases hi; exact encode_decodeFormat4 (beq_iff_eq.1 form)
  rcases answer_of_ite hi with ⟨form, hi⟩ | ⟨_, hi⟩
  · exact encode_of_decodeFormat5 hi (beq_iff_eq.1 form)
  rcases answer_of_ite hi with ⟨form, hi⟩ | ⟨_, hi⟩
  · cases hi; exact congrArg Encoding.thumb (encodeTRdWord8_tRdWord8Of (beq_iff_eq.1 form))
  rcases answer_of_ite hi with ⟨form, hi⟩ | ⟨_, hi⟩
  · cases hi; exact encode_decodeFormat7and8 (beq_iff_eq.1 form)
  rcases answer_of_ite hi with ⟨form, hi⟩ | ⟨_, hi⟩
  · cases hi; exact encode_decodeFormat9 (beq_iff_eq.1 form)
  rcases answer_of_ite hi with ⟨form, hi⟩ | ⟨_, hi⟩
  ·
    exact encode_of_thumb_bit (fun b => encodeTImmOff (0b1000#4 ++ bit1 b) (tImmOffOf h)) hi rfl rfl
      (encodeTImmOff_tImmOffOf (opcode5 (beq_iff_eq.1 form)))
  rcases answer_of_ite hi with ⟨form, hi⟩ | ⟨_, hi⟩
  ·
    exact encode_of_thumb_bit (fun b => encodeTRdWord8 (0b1001#4 ++ bit1 b) (tRdWord8Of h)) hi rfl rfl
      (encodeTRdWord8_tRdWord8Of (opcode5 (beq_iff_eq.1 form)))
  rcases answer_of_ite hi with ⟨form, hi⟩ | ⟨_, hi⟩
  ·
    exact encode_of_thumb_bit (fun b => encodeTRdWord8 (0b1010#4 ++ bit1 b) (tRdWord8Of h)) hi rfl rfl
      (encodeTRdWord8_tRdWord8Of (opcode5 (beq_iff_eq.1 form)))
  rcases answer_of_ite hi with ⟨form, hi⟩ | ⟨_, hi⟩
  · exact encode_of_decodeFormat13and14 hi (beq_iff_eq.1 form)
  rcases answer_of_ite hi with ⟨form, hi⟩ | ⟨_, hi⟩
  ·
    exact encode_of_thumb_bit (encodeTBlock · (tBlockOf h)) hi rfl rfl (encodeTBlock_tBlockOf (beq_iff_eq.1 form))
  rcases answer_of_ite hi with ⟨form, hi⟩ | ⟨_, hi⟩
  · exact encode_of_decodeFormat16and17 hi (beq_iff_eq.1 form)
  rcases answer_of_ite hi with ⟨form, hi⟩ | ⟨_, hi⟩
  · cases hi; exact congrArg Encoding.thumb (opcode_append_operand (beq_iff_eq.1 form))
  rcases answer_of_ite hi with ⟨-, hi⟩ | ⟨_, hi⟩
  · cases hi
  have form : h.extractLsb' 12 4 = 0b1111#4 := by
    clear hi
    simp only [beq_iff_eq, extractLsb'_eq_iff, BitVec.reduceToNat] at *
    omega
  exact encode_of_thumb_bit (fun b => 0b1111#4 ++ bit1 b ++ h.extractLsb' 0 11) hi rfl rfl
    (opcode_append_operand (opcode5 form))

end

/-- Settles O3: what a word decodes to is well-formed, and the branch that answers it tests its opcode bits. -/
theorem encodeDecode : Obligations.EncodeDecode := by
  rintro (w | h) i decoded
  · exact ⟨decodeArm_wellFormed decoded, encode_of_decodeArm decoded⟩
  · exact ⟨decodeThumb_wellFormed decoded, encode_of_decodeThumb decoded⟩

end Sys2Proof.Proofs
end

section
/-!
PROOF. The decoders by cases: an equation for each branch of R115 and of R139 (spec/30_encoding.md), under the fields that
select it.
-/

namespace Sys2Proof.Proofs

open Sys2Proof.Machine Sys2Proof.Claims

/-! ### Tests that fail -/

section
variable {n : Nat} {w m p : BitVec n}

/-- Two matches of one word agree on the bits that both masks cover. -/
theorem match_agree {m' p' : BitVec n} (hw : w &&& m = p) (hw' : w &&& m' = p') : p &&& m' = p' &&& m := by
  rw [← hw, ← hw', BitVec.and_assoc, BitVec.and_assoc, BitVec.and_comm m m']

theorem no_match_of_bit {k : Nat} {b : Bool} (bit : w.getLsbD k = b) (covered : m.getLsbD k = true)
    (differs : p.getLsbD k = !b) : (w &&& m == p) = false := by
  refine beq_eq_false_iff_ne.2 fun hw => ?_
  rw [bit_of_match hw k covered, differs] at bit
  cases b <;> cases bit

theorem no_match_of_field {lo len : Nat} {v : BitVec len} (field : w.extractLsb' lo len = v)
    (covered : m.extractLsb' lo len = BitVec.allOnes len) (differs : p.extractLsb' lo len ≠ v) : (w &&& m == p) = false :=
  beq_eq_false_iff_ne.2 fun hw => differs ((field_of_match hw lo len covered).symm.trans field)

theorem no_field_of_bit {lo len k : Nat} {v : BitVec len} {b : Bool} (bit : w.getLsbD k = b)
    (inside : lo ≤ k ∧ k < lo + len) (differs : v.getLsbD (k - lo) = !b) : (w.extractLsb' lo len == v) = false := by
  refine beq_eq_false_iff_ne.2 fun field => ?_
  have lt : k - lo < len := by omega
  rw [← field, BitVec.getLsbD_extractLsb', Nat.add_sub_cancel' inside.1, bit] at differs
  cases b <;> simp [lt] at differs

end

/-! ### The 32-bit decoder -/

section
variable {w : Word}

/-- Condition 15 is legal on this hardware (R183), so no word is undecodable for its condition. -/
theorem cond15_test (w : Word) : (condOf w == .nv && Config.cond15 == .illegal) = false := Bool.and_false _

theorem class_of_form {v : BitVec 3} (form : w.extractLsb' 25 3 = v) : w.extractLsb' 26 2 = v.extractLsb' 1 2 := by
  rw [← form, extractLsb'_field w (by decide)]

theorem bit25_of_form {v : BitVec 3} (form : w.extractLsb' 25 3 = v) : w.getLsbD 25 = v.getLsbD 0 := by
  rw [← form, BitVec.getLsbD_extractLsb']
  rfl

theorem decodeArm_bx (m : w &&& 0x0FFFFFF0#32 = 0x012FFF10#32) : decodeArm w = some (.bx (bxOf w)) := by
  simp only [decodeArm, cond15_test, m]
  rfl

theorem decodeArm_extension (form : w.extractLsb' 25 3 = 0b000#3) (bit7 : w.getLsbD 7 = true) (bit4 : w.getLsbD 4 = true) :
    decodeArm w = decodeExtension w := by
  simp only [decodeArm, cond15_test, no_match_of_bit bit7 (m := 0x0FFFFFF0#32) (p := 0x012FFF10#32) rfl rfl,
    class_of_form form, bit25_of_form form, bit7, bit4]
  rfl

/-- A word of the status-register space that is not BX (step 2b of R115). -/
theorem decodeArm_psr {b : Bool} (form : w.extractLsb' 25 3 = 0b00#2 ++ bit1 b) (opcode : w.extractLsb' 23 2 = 0b10#2)
    (bit20 : w.getLsbD 20 = false) (notExtension : (!b && w.getLsbD 7 && w.getLsbD 4) = false)
    (notBx : (w &&& 0x0FFFFFF0#32 == 0x012FFF10#32) = false) : decodeArm w = decodePsr w := by
  have bit25 : w.getLsbD 25 = b := (bit25_of_form form).trans (by cases b <;> rfl)
  have class2 : w.extractLsb' 26 2 = 0b00#2 := (class_of_form form).trans (by cases b <;> rfl)
  simp only [decodeArm, cond15_test, notBx, class2, bit25, notExtension, opcode, bit20]
  rfl

/-- Data processing: an opcode outside 10xx, or S = 1 (step 2c of R115). -/
theorem decodeArm_dataProcessing {b : Bool} (form : w.extractLsb' 25 3 = 0b00#2 ++ bit1 b)
    (notPsr : (w.extractLsb' 23 2 == 0b10#2 && !w.getLsbD 20) = false)
    (notExtension : (!b && w.getLsbD 7 && w.getLsbD 4) = false) : decodeArm w = some (decodeDataProcessing w) := by
  have bit25 : w.getLsbD 25 = b := (bit25_of_form form).trans (by cases b <;> rfl)
  have class2 : w.extractLsb' 26 2 = 0b00#2 := (class_of_form form).trans (by cases b <;> rfl)
  have notBx : (w &&& 0x0FFFFFF0#32 == 0x012FFF10#32) = false := by
    refine beq_eq_false_iff_ne.2 fun bx => ?_
    rw [field_of_match bx 23 2 rfl, bit_of_match bx 20 rfl] at notPsr
    cases notPsr
  simp only [decodeArm, cond15_test, notBx, class2, bit25, notExtension, notPsr]
  rfl

/-- An opcode outside 10xx is no status-register transfer (step 2b of R115). -/
theorem notPsr_of_opcode {v : BitVec 2} (opcode : w.extractLsb' 23 2 = v) (other : (v == 0b10#2) = false) :
    (w.extractLsb' 23 2 == 0b10#2 && !w.getLsbD 20) = false := by
  rw [opcode, other, Bool.false_and]

/-- Nor is a word with S = 1. -/
theorem notPsr_of_set (bit20 : w.getLsbD 20 = true) : (w.extractLsb' 23 2 == 0b10#2 && !w.getLsbD 20) = false := by
  rw [bit20, Bool.not_true, Bool.and_false]

theorem decodeArm_dpImm (form : w.extractLsb' 25 3 = 0b001#3)
    (notPsr : (w.extractLsb' 23 2 == 0b10#2 && !w.getLsbD 20) = false) :
    decodeArm w = some (dpImmInstr (DpOp.ofBits (w.extractLsb' 21 4)) (dpImmOf w)) := by
  rw [decodeArm_dataProcessing (b := true) form notPsr rfl, decodeDataProcessing, bit25_of_form form]
  rfl

theorem decodeArm_dpRegImm (form : w.extractLsb' 25 3 = 0b000#3)
    (notPsr : (w.extractLsb' 23 2 == 0b10#2 && !w.getLsbD 20) = false) (bit4 : w.getLsbD 4 = false) :
    decodeArm w = some (dpRegImmInstr (DpOp.ofBits (w.extractLsb' 21 4)) (dpRegImmOf w)) := by
  rw [decodeArm_dataProcessing (b := false) form notPsr (by rw [bit4, Bool.and_false]), decodeDataProcessing,
    bit25_of_form form, bit4]
  rfl

theorem decodeArm_dpRegReg (form : w.extractLsb' 25 3 = 0b000#3)
    (notPsr : (w.extractLsb' 23 2 == 0b10#2 && !w.getLsbD 20) = false) (bit7 : w.getLsbD 7 = false)
    (bit4 : w.getLsbD 4 = true) :
    decodeArm w = some (dpRegRegInstr (DpOp.ofBits (w.extractLsb' 21 4)) (dpRegRegOf w)) := by
  rw [decodeArm_dataProcessing (b := false) form notPsr (by rw [bit7, Bool.and_false, Bool.false_and]),
    decodeDataProcessing, bit25_of_form form, bit4]
  rfl

theorem decodeArm_sdtImm (form : w.extractLsb' 25 3 = 0b010#3) : decodeArm w = some (decodeSdtImm w) := by
  simp only [decodeArm, cond15_test, no_match_of_field form (m := 0x0FFFFFF0#32) (p := 0x012FFF10#32) rfl (by decide),
    class_of_form form, bit25_of_form form]
  rfl

theorem decodeArm_sdtReg (form : w.extractLsb' 25 3 = 0b011#3) (bit4 : w.getLsbD 4 = false) :
    decodeArm w = some (decodeSdtReg w) := by
  simp only [decodeArm, cond15_test, no_match_of_field form (m := 0x0FFFFFF0#32) (p := 0x012FFF10#32) rfl (by decide),
    class_of_form form, bit25_of_form form, bit4]
  rfl

theorem decodeArm_media (form : w.extractLsb' 25 3 = 0b011#3) (bit4 : w.getLsbD 4 = true) : decodeArm w = none := by
  simp only [decodeArm, cond15_test, no_match_of_field form (m := 0x0FFFFFF0#32) (p := 0x012FFF10#32) rfl (by decide),
    class_of_form form, bit25_of_form form, bit4]
  rfl

theorem decodeArm_block (form : w.extractLsb' 25 3 = 0b100#3) :
    decodeArm w = if w.getLsbD 20 then some (.ldm (bdtOf w)) else some (.stm (bdtOf w)) := by
  simp only [decodeArm, cond15_test, no_match_of_field form (m := 0x0FFFFFF0#32) (p := 0x012FFF10#32) rfl (by decide),
    class_of_form form, form]
  rfl

theorem decodeArm_branch (form : w.extractLsb' 25 3 = 0b101#3) :
    decodeArm w = if w.getLsbD 24 then some (.bl (branchOf w)) else some (.b (branchOf w)) := by
  simp only [decodeArm, cond15_test, no_match_of_field form (m := 0x0FFFFFF0#32) (p := 0x012FFF10#32) rfl (by decide),
    class_of_form form, form]
  rfl

theorem decodeArm_cdt (form : w.extractLsb' 25 3 = 0b110#3) :
    decodeArm w = if w.getLsbD 20 then some (.ldc (cdtOf w)) else some (.stc (cdtOf w)) := by
  simp only [decodeArm, cond15_test, no_match_of_field form (m := 0x0FFFFFF0#32) (p := 0x012FFF10#32) rfl (by decide),
    class_of_form form, form]
  rfl

theorem form_of_bits24 {v : BitVec 4} (bits24 : w.extractLsb' 24 4 = v) : w.extractLsb' 25 3 = v.extractLsb' 1 3 := by
  rw [← bits24, extractLsb'_field w (by decide)]

theorem decodeArm_swi (bits24 : w.extractLsb' 24 4 = 0b1111#4) : decodeArm w = some (.swi (swiOf w)) := by
  have form := form_of_bits24 bits24
  simp only [decodeArm, cond15_test, no_match_of_field form (m := 0x0FFFFFF0#32) (p := 0x012FFF10#32) rfl (by decide),
    class_of_form form, form, bits24]
  rfl

/-- The coprocessor operations and register transfers, by bit 4 (R112). -/
theorem decodeArm_coprocessor (bits24 : w.extractLsb' 24 4 = 0b1110#4) :
    decodeArm w = if w.getLsbD 4 then if w.getLsbD 20 then some (.mrc (crtOf w)) else some (.mcr (crtOf w))
      else some (.cdp (cdoOf w)) := by
  have form := form_of_bits24 bits24
  simp only [decodeArm, cond15_test, no_match_of_field form (m := 0x0FFFFFF0#32) (p := 0x012FFF10#32) rfl (by decide),
    class_of_form form, form, bits24]
  cases w.getLsbD 4 <;> rfl

/-! ### The status-register space -/

theorem decodePsr_mrs (m : w &&& 0x0FBF0FFF#32 = 0x010F0000#32) : decodePsr w = some (.mrs (mrsOf w)) := by
  simp only [decodePsr, m]
  rfl

theorem decodePsr_msrReg (m : w &&& 0x0FB0FFF0#32 = 0x0120F000#32) : decodePsr w = some (.msrReg (msrRegOf w)) := by
  have bit21 : w.getLsbD 21 = true := bit_of_match m 21 rfl
  simp only [decodePsr, no_match_of_bit bit21 (m := 0x0FBF0FFF#32) (p := 0x010F0000#32) rfl rfl, m]
  rfl

theorem decodePsr_msrImm (m : w &&& 0x0FB0F000#32 = 0x0320F000#32) : decodePsr w = some (.msrImm (msrImmOf w)) := by
  have bit25 : w.getLsbD 25 = true := bit_of_match m 25 rfl
  simp only [decodePsr, no_match_of_bit bit25 (m := 0x0FBF0FFF#32) (p := 0x010F0000#32) rfl rfl,
    no_match_of_bit bit25 (m := 0x0FB0FFF0#32) (p := 0x0120F000#32) rfl rfl, m]
  rfl

end

/-! ### The 16-bit decoder -/

section
variable {h : Half}

theorem decodeThumb_format1and2 (form : h.extractLsb' 13 3 = 0b000#3) : decodeThumb h = some (decodeFormat1and2 h) := by
  simp only [decodeThumb, form]
  rfl

theorem decodeThumb_format3 (form : h.extractLsb' 13 3 = 0b001#3) : decodeThumb h = some (decodeFormat3 h) := by
  simp only [decodeThumb, form]
  rfl

theorem decodeThumb_format4 (form : h.extractLsb' 10 6 = 0b010000#6) : decodeThumb h = some (decodeFormat4 h) := by
  simp only [decodeThumb, beq_iff_eq, extractLsb'_eq_iff, BitVec.reduceToNat] at form ⊢
  simp (disch := omega) only [if_neg, if_pos]

theorem decodeThumb_format5 (form : h.extractLsb' 10 6 = 0b010001#6) : decodeThumb h = decodeFormat5 h := by
  simp only [decodeThumb, beq_iff_eq, extractLsb'_eq_iff, BitVec.reduceToNat] at form ⊢
  simp (disch := omega) only [if_neg, if_pos]

theorem decodeThumb_format6 (form : h.extractLsb' 11 5 = 0b01001#5) : decodeThumb h = some (.tLdrPc (tRdWord8Of h)) := by
  simp only [decodeThumb, beq_iff_eq, extractLsb'_eq_iff, BitVec.reduceToNat] at form ⊢
  simp (disch := omega) only [if_neg, if_pos]

theorem decodeThumb_format7and8 (form : h.extractLsb' 12 4 = 0b0101#4) : decodeThumb h = some (decodeFormat7and8 h) := by
  simp only [decodeThumb, beq_iff_eq, extractLsb'_eq_iff, BitVec.reduceToNat] at form ⊢
  simp (disch := omega) only [if_neg, if_pos]

theorem decodeThumb_format9 (form : h.extractLsb' 13 3 = 0b011#3) : decodeThumb h = some (decodeFormat9 h) := by
  simp only [decodeThumb, beq_iff_eq, extractLsb'_eq_iff, BitVec.reduceToNat] at form ⊢
  simp (disch := omega) only [if_neg, if_pos]

theorem decodeThumb_format10 (form : h.extractLsb' 12 4 = 0b1000#4) : decodeThumb h =
    if h.getLsbD 11 then some (.tLdrhImm (tImmOffOf h)) else some (.tStrhImm (tImmOffOf h)) := by
  simp only [decodeThumb, beq_iff_eq, extractLsb'_eq_iff, BitVec.reduceToNat] at form ⊢
  simp (disch := omega) only [if_neg, if_pos]

theorem decodeThumb_format11 (form : h.extractLsb' 12 4 = 0b1001#4) : decodeThumb h =
    if h.getLsbD 11 then some (.tLdrSp (tRdWord8Of h)) else some (.tStrSp (tRdWord8Of h)) := by
  simp only [decodeThumb, beq_iff_eq, extractLsb'_eq_iff, BitVec.reduceToNat] at form ⊢
  simp (disch := omega) only [if_neg, if_pos]

theorem decodeThumb_format12 (form : h.extractLsb' 12 4 = 0b1010#4) : decodeThumb h =
    if h.getLsbD 11 then some (.tAddSp (tRdWord8Of h)) else some (.tAddPc (tRdWord8Of h)) := by
  simp only [decodeThumb, beq_iff_eq, extractLsb'_eq_iff, BitVec.reduceToNat] at form ⊢
  simp (disch := omega) only [if_neg, if_pos]

theorem decodeThumb_format13and14 (form : h.extractLsb' 12 4 = 0b1011#4) : decodeThumb h = decodeFormat13and14 h := by
  simp only [decodeThumb, beq_iff_eq, extractLsb'_eq_iff, BitVec.reduceToNat] at form ⊢
  simp (disch := omega) only [if_neg, if_pos]

theorem decodeThumb_format15 (form : h.extractLsb' 12 4 = 0b1100#4) : decodeThumb h =
    if h.getLsbD 11 then some (.tLdmia (tBlockOf h)) else some (.tStmia (tBlockOf h)) := by
  simp only [decodeThumb, beq_iff_eq, extractLsb'_eq_iff, BitVec.reduceToNat] at form ⊢
  simp (disch := omega) only [if_neg, if_pos]

theorem decodeThumb_format16and17 (form : h.extractLsb' 12 4 = 0b1101#4) : decodeThumb h = decodeFormat16and17 h := by
  simp only [decodeThumb, beq_iff_eq, extractLsb'_eq_iff, BitVec.reduceToNat] at form ⊢
  simp (disch := omega) only [if_neg, if_pos]

theorem decodeThumb_format18 (form : h.extractLsb' 11 5 = 0b11100#5) :
    decodeThumb h = some (.tB (h.extractLsb' 0 11)) := by
  simp only [decodeThumb, beq_iff_eq, extractLsb'_eq_iff, BitVec.reduceToNat] at form ⊢
  simp (disch := omega) only [if_neg, if_pos]

theorem decodeThumb_unallocated (form : h.extractLsb' 11 5 = 0b11101#5) : decodeThumb h = none := by
  simp only [decodeThumb, beq_iff_eq, extractLsb'_eq_iff, BitVec.reduceToNat] at form ⊢
  simp (disch := omega) only [if_neg, if_pos]

theorem decodeThumb_format19 (form : h.extractLsb' 12 4 = 0b1111#4) : decodeThumb h =
    if h.getLsbD 11 then some (.tBlLo (h.extractLsb' 0 11)) else some (.tBlHi (h.extractLsb' 0 11)) := by
  simp only [decodeThumb, beq_iff_eq, extractLsb'_eq_iff, BitVec.reduceToNat] at form ⊢
  simp (disch := omega) only [if_neg]

end

end Sys2Proof.Proofs
end

section
/-!
PROOF. The rows of spec/opcode_table.json against the decoder and the encoder (spec/30_encoding.md R149): a word that
matches a row decodes to an instruction of that row, and a well-formed instruction's own word matches its row and decodes
to it.
-/

namespace Sys2Proof.Proofs

open Sys2Proof.Machine Sys2Proof.Claims

/-! ### Words that match a row -/

/-- Every word that matches the row of the instruction decodes to an instruction of that row, and the instruction's own
word to the instruction. -/
def DecodesByRow (i : Instr) : Prop :=
  ∀ e, i.tableRow.matches e = true →
    ∃ j, decode e = some j ∧ j.tableRow = i.tableRow ∧ (i.wellFormed = true → encode i = e → j = i)

theorem matches_arm_iff {r : TableRow} (width : r.width = 32) (w : Word) :
    r.matches (.arm w) = true ↔ w &&& BitVec.ofNat 32 r.mask = BitVec.ofNat 32 r.pattern := by
  simp [TableRow.matches, width]

theorem matches_thumb_iff {r : TableRow} (width : r.width = 16) (h : Half) :
    r.matches (.thumb h) = true ↔ h &&& BitVec.ofNat 16 r.mask = BitVec.ofNat 16 r.pattern := by
  simp [TableRow.matches, width]

/-- A 32-bit row: its constructor, its format's layout and the fields cut from a word of that format. -/
theorem DecodesByRow.arm {α : Type} {make : α → Instr} {f : α} {lay : α → Word} {cut : Word → α}
    (cut_lay : (make f).wellFormed = true → cut (lay f) = f)
    (decodes : ∀ w, w &&& BitVec.ofNat 32 (make f).tableRow.mask = BitVec.ofNat 32 (make f).tableRow.pattern →
      decodeArm w = some (make (cut w)))
    (lays : encode (make f) = .arm (lay f) := by rfl)
    (width : (make f).tableRow.width = 32 := by rfl)
    (row : ∀ g, (make g).tableRow = (make f).tableRow := by exact fun _ => rfl) : DecodesByRow (make f) := by
  rintro (w | h) hit
  · refine ⟨_, decodes w ((matches_arm_iff width w).1 hit), row _, fun wf own => ?_⟩
    cases lays.symm.trans own
    rw [cut_lay wf]
  · simp [TableRow.matches, width] at hit

/-- A 16-bit row, likewise. -/
theorem DecodesByRow.thumb {α : Type} {make : α → Instr} {f : α} {lay : α → Half} {cut : Half → α}
    (cut_lay : (make f).wellFormed = true → cut (lay f) = f)
    (decodes : ∀ h, h &&& BitVec.ofNat 16 (make f).tableRow.mask = BitVec.ofNat 16 (make f).tableRow.pattern →
      decodeThumb h = some (make (cut h)))
    (lays : encode (make f) = .thumb (lay f) := by rfl)
    (width : (make f).tableRow.width = 16 := by rfl)
    (row : ∀ g, (make g).tableRow = (make f).tableRow := by exact fun _ => rfl) : DecodesByRow (make f) := by
  rintro (w | h) hit
  · simp [TableRow.matches, width] at hit
  · refine ⟨_, decodes h ((matches_thumb_iff width h).1 hit), row _, fun wf own => ?_⟩
    cases lays.symm.trans own
    rw [cut_lay wf]

/-- Every row selects the branch of its decoder that answers its constructor: the mask covers the fields the branch tests. -/
theorem decodesByRow (i : Instr) : DecodesByRow i := by
  cases i with
  | andImm f | eorImm f | subImm f | rsbImm f | addImm f | adcImm f | sbcImm f | rscImm f | orrImm f | movImm f
  | bicImm f | mvnImm f =>
    refine .arm (fun _ => dpImmOf_encodeDpImm _ f) fun w m => ?_
    dsimp only [Instr.tableRow] at m
    rw [decodeArm_dpImm (field_of_match m 25 3 rfl) (notPsr_of_opcode (field_of_match m 23 2 rfl) rfl),
      field_of_match m 21 4 rfl]
    rfl
  | tstImm f | teqImm f | cmpImm f | cmnImm f =>
    refine .arm (fun _ => dpImmOf_encodeDpImm _ f) fun w m => ?_
    dsimp only [Instr.tableRow] at m
    rw [decodeArm_dpImm (field_of_match m 25 3 rfl) (notPsr_of_set (bit_of_match m 20 rfl)),
      field_of_match m 21 4 rfl]
    rfl
  | andRegImm f | eorRegImm f | subRegImm f | rsbRegImm f | addRegImm f | adcRegImm f | sbcRegImm f | rscRegImm f
  | orrRegImm f | movRegImm f | bicRegImm f | mvnRegImm f =>
    refine .arm (fun _ => dpRegImmOf_encodeDpRegImm _ f) fun w m => ?_
    dsimp only [Instr.tableRow] at m
    rw [decodeArm_dpRegImm (field_of_match m 25 3 rfl) (notPsr_of_opcode (field_of_match m 23 2 rfl) rfl)
      (bit_of_match m 4 rfl), field_of_match m 21 4 rfl]
    rfl
  | tstRegImm f | teqRegImm f | cmpRegImm f | cmnRegImm f =>
    refine .arm (fun _ => dpRegImmOf_encodeDpRegImm _ f) fun w m => ?_
    dsimp only [Instr.tableRow] at m
    rw [decodeArm_dpRegImm (field_of_match m 25 3 rfl) (notPsr_of_set (bit_of_match m 20 rfl))
      (bit_of_match m 4 rfl), field_of_match m 21 4 rfl]
    rfl
  | andRegReg f | eorRegReg f | subRegReg f | rsbRegReg f | addRegReg f | adcRegReg f | sbcRegReg f | rscRegReg f
  | orrRegReg f | movRegReg f | bicRegReg f | mvnRegReg f =>
    refine .arm (fun _ => dpRegRegOf_encodeDpRegReg _ f) fun w m => ?_
    dsimp only [Instr.tableRow] at m
    rw [decodeArm_dpRegReg (field_of_match m 25 3 rfl) (notPsr_of_opcode (field_of_match m 23 2 rfl) rfl)
      (bit_of_match m 7 rfl) (bit_of_match m 4 rfl), field_of_match m 21 4 rfl]
    rfl
  | tstRegReg f | teqRegReg f | cmpRegReg f | cmnRegReg f =>
    refine .arm (fun _ => dpRegRegOf_encodeDpRegReg _ f) fun w m => ?_
    dsimp only [Instr.tableRow] at m
    rw [decodeArm_dpRegReg (field_of_match m 25 3 rfl) (notPsr_of_set (bit_of_match m 20 rfl))
      (bit_of_match m 7 rfl) (bit_of_match m 4 rfl), field_of_match m 21 4 rfl]
    rfl
  | mrs f =>
    refine .arm (fun _ => mrsOf_encodeMrs f) fun w m => ?_
    dsimp only [Instr.tableRow] at m
    rw [decodeArm_psr (b := false) (field_of_match m 25 3 rfl) (field_of_match m 23 2 rfl) (bit_of_match m 20 rfl)
      (by rw [bit_of_match m 4 rfl]; exact Bool.and_false _)
      (no_match_of_bit (bit_of_match m 21 rfl) rfl rfl),
      decodePsr_mrs m]
  | msrReg f =>
    refine .arm (fun _ => msrRegOf_encodeMsrReg f) fun w m => ?_
    dsimp only [Instr.tableRow] at m
    rw [decodeArm_psr (b := false) (field_of_match m 25 3 rfl) (field_of_match m 23 2 rfl) (bit_of_match m 20 rfl)
      (by rw [bit_of_match m 4 rfl]; exact Bool.and_false _)
      (no_match_of_field (field_of_match m 4 4 rfl) rfl (by decide)),
      decodePsr_msrReg m]
  | msrImm f =>
    refine .arm (fun _ => msrImmOf_encodeMsrImm f) fun w m => ?_
    dsimp only [Instr.tableRow] at m
    rw [decodeArm_psr (b := true) (field_of_match m 25 3 rfl) (field_of_match m 23 2 rfl) (bit_of_match m 20 rfl)
      rfl
      (no_match_of_bit (bit_of_match m 25 rfl) rfl rfl),
      decodePsr_msrImm m]
  | mul f | mla f =>
    refine .arm (fun _ => mulOf_encodeMul _ f) fun w m => ?_
    dsimp only [Instr.tableRow] at m
    rw [decodeArm_extension (field_of_match m 25 3 rfl) (bit_of_match m 7 rfl) (bit_of_match m 4 rfl), decodeExtension,
      field_of_match m 5 2 rfl, field_of_match m 22 6 rfl, bit_of_match m 21 rfl]
    rfl
  | umull f | umlal f | smull f | smlal f =>
    refine .arm (fun _ => mulLongOf_encodeMulLong _ _ f) fun w m => ?_
    dsimp only [Instr.tableRow] at m
    rw [decodeArm_extension (field_of_match m 25 3 rfl) (bit_of_match m 7 rfl) (bit_of_match m 4 rfl), decodeExtension,
      field_of_match m 5 2 rfl, field_of_match m 22 6 rfl, field_of_match m 23 5 rfl, bit_of_match m 22 rfl,
      bit_of_match m 21 rfl]
    rfl
  | swp f | swpb f =>
    refine .arm (fun _ => swpOf_encodeSwp _ f) fun w m => ?_
    dsimp only [Instr.tableRow] at m
    rw [decodeArm_extension (field_of_match m 25 3 rfl) (bit_of_match m 7 rfl) (bit_of_match m 4 rfl), decodeExtension,
      field_of_match m 5 2 rfl, field_of_match m 22 6 rfl, field_of_match m 23 5 rfl,
      match_part m 0x0FB00FF0#32 (by decide), bit_of_match m 22 rfl]
    rfl
  | bx f =>
    refine .arm (fun _ => bxOf_encodeBx f) fun w m => ?_
    dsimp only [Instr.tableRow] at m
    exact decodeArm_bx m
  | ldrhReg f | ldrsbReg f | ldrshReg f =>
    refine .arm (fun _ => hdtRegOf_encodeHdtReg _ _ f) fun w m => ?_
    dsimp only [Instr.tableRow] at m
    rw [decodeArm_extension (field_of_match m 25 3 rfl) (bit_of_match m 7 rfl) (bit_of_match m 4 rfl), decodeExtension,
      field_of_match m 5 2 rfl, bit_of_match m 20 rfl, bit_of_match m 6 rfl, bit_of_match m 5 rfl, bit_of_match m 22 rfl]
    rfl
  | strhReg f =>
    refine .arm (fun _ => hdtRegOf_encodeHdtReg _ _ f) fun w m => ?_
    dsimp only [Instr.tableRow] at m
    rw [decodeArm_extension (field_of_match m 25 3 rfl) (bit_of_match m 7 rfl) (bit_of_match m 4 rfl), decodeExtension,
      field_of_match m 5 2 rfl, bit_of_match m 20 rfl, bit_of_match m 6 rfl, bit_of_match m 22 rfl]
    rfl
  | ldrhImm f | ldrsbImm f | ldrshImm f =>
    refine .arm (fun _ => hdtImmOf_encodeHdtImm _ _ f) fun w m => ?_
    dsimp only [Instr.tableRow] at m
    rw [decodeArm_extension (field_of_match m 25 3 rfl) (bit_of_match m 7 rfl) (bit_of_match m 4 rfl), decodeExtension,
      field_of_match m 5 2 rfl, bit_of_match m 20 rfl, bit_of_match m 6 rfl, bit_of_match m 5 rfl, bit_of_match m 22 rfl]
    rfl
  | strhImm f =>
    refine .arm (fun _ => hdtImmOf_encodeHdtImm _ _ f) fun w m => ?_
    dsimp only [Instr.tableRow] at m
    rw [decodeArm_extension (field_of_match m 25 3 rfl) (bit_of_match m 7 rfl) (bit_of_match m 4 rfl), decodeExtension,
      field_of_match m 5 2 rfl, bit_of_match m 20 rfl, bit_of_match m 6 rfl, bit_of_match m 22 rfl]
    rfl
  | ldrImmPre f | strImmPre f | ldrbImmPre f | strbImmPre f =>
    refine .arm (fun _ => sdtImmOf_encodeSdtImm _ _ _ f) fun w m => ?_
    dsimp only [Instr.tableRow] at m
    rw [decodeArm_sdtImm (field_of_match m 25 3 rfl), decodeSdtImm,
      bit_of_match m 22 rfl, bit_of_match m 20 rfl, bit_of_match m 24 rfl]
    rfl
  | ldrImmPost f | ldrtImm f | strImmPost f | strtImm f | ldrbImmPost f | ldrbtImm f | strbImmPost f | strbtImm f =>
    refine .arm (fun _ => sdtImmOf_encodeSdtImm _ _ _ f) fun w m => ?_
    dsimp only [Instr.tableRow] at m
    rw [decodeArm_sdtImm (field_of_match m 25 3 rfl), decodeSdtImm,
      bit_of_match m 22 rfl, bit_of_match m 20 rfl, bit_of_match m 24 rfl, bit_of_match m 21 rfl]
    rfl
  | ldrRegPre f | strRegPre f | ldrbRegPre f | strbRegPre f =>
    refine .arm (fun _ => sdtRegOf_encodeSdtReg _ _ _ f) fun w m => ?_
    dsimp only [Instr.tableRow] at m
    rw [decodeArm_sdtReg (field_of_match m 25 3 rfl) (bit_of_match m 4 rfl), decodeSdtReg,
      bit_of_match m 22 rfl, bit_of_match m 20 rfl, bit_of_match m 24 rfl]
    rfl
  | ldrRegPost f | ldrtReg f | strRegPost f | strtReg f | ldrbRegPost f | ldrbtReg f | strbRegPost f | strbtReg f =>
    refine .arm (fun _ => sdtRegOf_encodeSdtReg _ _ _ f) fun w m => ?_
    dsimp only [Instr.tableRow] at m
    rw [decodeArm_sdtReg (field_of_match m 25 3 rfl) (bit_of_match m 4 rfl), decodeSdtReg,
      bit_of_match m 22 rfl, bit_of_match m 20 rfl, bit_of_match m 24 rfl, bit_of_match m 21 rfl]
    rfl
  | ldm f | stm f =>
    refine .arm (fun _ => bdtOf_encodeBdt _ f) fun w m => ?_
    dsimp only [Instr.tableRow] at m
    rw [decodeArm_block (field_of_match m 25 3 rfl), bit_of_match m 20 rfl]
    rfl
  | b f | bl f =>
    refine .arm (fun _ => branchOf_encodeBranch _ f) fun w m => ?_
    dsimp only [Instr.tableRow] at m
    rw [decodeArm_branch (field_of_match m 25 3 rfl), bit_of_match m 24 rfl]
    rfl
  | stc f | ldc f =>
    refine .arm (fun _ => cdtOf_encodeCdt _ f) fun w m => ?_
    dsimp only [Instr.tableRow] at m
    rw [decodeArm_cdt (field_of_match m 25 3 rfl), bit_of_match m 20 rfl]
    rfl
  | cdp f =>
    refine .arm (fun _ => cdoOf_encodeCdo f) fun w m => ?_
    dsimp only [Instr.tableRow] at m
    rw [decodeArm_coprocessor (field_of_match m 24 4 rfl), bit_of_match m 4 rfl]
    rfl
  | mcr f | mrc f =>
    refine .arm (fun _ => crtOf_encodeCrt _ f) fun w m => ?_
    dsimp only [Instr.tableRow] at m
    rw [decodeArm_coprocessor (field_of_match m 24 4 rfl), bit_of_match m 4 rfl, bit_of_match m 20 rfl]
    rfl
  | swi f =>
    refine .arm (fun _ => swiOf_encodeSwi f) fun w m => ?_
    dsimp only [Instr.tableRow] at m
    exact decodeArm_swi (field_of_match m 24 4 rfl)
  | tLslImm f | tLsrImm f | tAsrImm f =>
    refine .thumb (fun low => tShiftOf_encodeTShift _ f low) fun h m => ?_
    dsimp only [Instr.tableRow] at m
    rw [decodeThumb_format1and2 (field_of_match m 13 3 rfl), decodeFormat1and2, bit_of_match m 12 rfl,
      bit_of_match m 11 rfl]
    rfl
  | tAddReg f | tSubReg f =>
    refine .thumb (fun low => tAddSubRegOf_encodeTAddSubReg _ f low) fun h m => ?_
    dsimp only [Instr.tableRow] at m
    rw [decodeThumb_format1and2 (field_of_match m 13 3 rfl), decodeFormat1and2, bit_of_match m 12 rfl,
      bit_of_match m 11 rfl, bit_of_match m 10 rfl, bit_of_match m 9 rfl]
    rfl
  | tAddImm3 f | tSubImm3 f =>
    refine .thumb (fun low => tAddSubImmOf_encodeTAddSubImm _ f low) fun h m => ?_
    dsimp only [Instr.tableRow] at m
    rw [decodeThumb_format1and2 (field_of_match m 13 3 rfl), decodeFormat1and2, bit_of_match m 12 rfl,
      bit_of_match m 11 rfl, bit_of_match m 10 rfl, bit_of_match m 9 rfl]
    rfl
  | tMovImm8 f | tCmpImm8 f | tAddImm8 f | tSubImm8 f =>
    refine .thumb (fun low => tImm8Of_encodeTImm8 _ f low) fun h m => ?_
    dsimp only [Instr.tableRow] at m
    rw [decodeThumb_format3 (field_of_match m 13 3 rfl), decodeFormat3, bit_of_match m 12 rfl, bit_of_match m 11 rfl]
    rfl
  | tAnd f | tEor f | tLslReg f | tLsrReg f | tAsrReg f | tAdc f | tSbc f | tRor f | tTst f | tNeg f | tCmpReg f
  | tCmn f | tOrr f | tMul f | tBic f | tMvn f =>
    refine .thumb (fun low => tAluOf_encodeTAlu _ f low) fun h m => ?_
    dsimp only [Instr.tableRow] at m
    rw [decodeThumb_format4 (field_of_match m 10 6 rfl), decodeFormat4, field_of_match m 6 4 rfl]
    rfl
  | tAddHi f | tCmpHi f | tMovHi f =>
    refine .thumb (fun _ => tHighOf_encodeTHigh _ f) fun h m => ?_
    dsimp only [Instr.tableRow] at m
    rw [decodeThumb_format5 (field_of_match m 10 6 rfl), decodeFormat5, bit_of_match m 9 rfl, bit_of_match m 8 rfl]
    rfl
  | tBx f =>
    refine .thumb (fun _ => tBxOf_encodeTBx f) fun h m => ?_
    dsimp only [Instr.tableRow] at m
    rw [decodeThumb_format5 (field_of_match m 10 6 rfl), decodeFormat5, bit_of_match m 9 rfl, bit_of_match m 8 rfl,
      bit_of_match m 7 rfl, field_of_match m 0 3 rfl]
    rfl
  | tLdrPc f =>
    refine .thumb (fun low => tRdWord8Of_encodeTRdWord8 _ f low) fun h m => ?_
    dsimp only [Instr.tableRow] at m
    exact decodeThumb_format6 (field_of_match m 11 5 rfl)
  | tStrReg f | tStrbReg f | tLdrReg f | tLdrbReg f | tStrhReg f | tLdsb f | tLdrhReg f | tLdsh f =>
    refine .thumb (fun low => tRegOffOf_encodeTRegOff _ f low) fun h m => ?_
    dsimp only [Instr.tableRow] at m
    rw [decodeThumb_format7and8 (field_of_match m 12 4 rfl), decodeFormat7and8, bit_of_match m 9 rfl,
      bit_of_match m 11 rfl, bit_of_match m 10 rfl]
    rfl
  | tStrImm f | tLdrImm f | tStrbImm f | tLdrbImm f =>
    refine .thumb (fun low => tImmOffOf_encodeTImmOff _ f low) fun h m => ?_
    dsimp only [Instr.tableRow] at m
    rw [decodeThumb_format9 (field_of_match m 13 3 rfl), decodeFormat9, bit_of_match m 12 rfl, bit_of_match m 11 rfl]
    rfl
  | tStrhImm f | tLdrhImm f =>
    refine .thumb (fun low => tImmOffOf_encodeTImmOff _ f low) fun h m => ?_
    dsimp only [Instr.tableRow] at m
    rw [decodeThumb_format10 (field_of_match m 12 4 rfl), bit_of_match m 11 rfl]
    rfl
  | tStrSp f | tLdrSp f =>
    refine .thumb (fun low => tRdWord8Of_encodeTRdWord8 _ f low) fun h m => ?_
    dsimp only [Instr.tableRow] at m
    rw [decodeThumb_format11 (field_of_match m 12 4 rfl), bit_of_match m 11 rfl]
    rfl
  | tAddPc f | tAddSp f =>
    refine .thumb (fun low => tRdWord8Of_encodeTRdWord8 _ f low) fun h m => ?_
    dsimp only [Instr.tableRow] at m
    rw [decodeThumb_format12 (field_of_match m 12 4 rfl), bit_of_match m 11 rfl]
    rfl
  | tAddSpImm7 f | tSubSpImm7 f =>
    refine .thumb (fun _ => BitVec.extractLsb'_append_eq_right (b := f)) fun h m => ?_
    dsimp only [Instr.tableRow] at m
    rw [decodeThumb_format13and14 (field_of_match m 12 4 rfl), decodeFormat13and14, field_of_match m 8 4 rfl,
      bit_of_match m 7 rfl]
    rfl
  | tPush f | tPop f =>
    refine .thumb (fun _ => tPushPopOf_encodeTPushPop _ f) fun h m => ?_
    dsimp only [Instr.tableRow] at m
    rw [decodeThumb_format13and14 (field_of_match m 12 4 rfl), decodeFormat13and14,
      no_field_of_bit (bit_of_match m 10 rfl) (lo := 8) (v := 0b0000#4) (by decide) rfl, field_of_match m 9 2 rfl,
      bit_of_match m 11 rfl]
    rfl
  | tStmia f | tLdmia f =>
    refine .thumb (fun low => tBlockOf_encodeTBlock _ f low) fun h m => ?_
    dsimp only [Instr.tableRow] at m
    rw [decodeThumb_format15 (field_of_match m 12 4 rfl), bit_of_match m 11 rfl]
    rfl
  | tBeq f | tBne f | tBcs f | tBcc f | tBmi f | tBpl f | tBvs f | tBvc f | tBhi f | tBls f | tBge f | tBlt f | tBgt f
  | tBle f | tSwi f =>
    refine .thumb (fun _ => BitVec.extractLsb'_append_eq_right (b := f)) fun h m => ?_
    dsimp only [Instr.tableRow] at m
    rw [decodeThumb_format16and17 (field_of_match m 12 4 rfl), decodeFormat16and17, field_of_match m 8 4 rfl]
    rfl
  | tB f =>
    refine .thumb (fun _ => BitVec.extractLsb'_append_eq_right (b := f)) fun h m => ?_
    dsimp only [Instr.tableRow] at m
    exact decodeThumb_format18 (field_of_match m 11 5 rfl)
  | tBlHi f | tBlLo f =>
    refine .thumb (fun _ => BitVec.extractLsb'_append_eq_right (b := f)) fun h m => ?_
    dsimp only [Instr.tableRow] at m
    rw [decodeThumb_format19 (field_of_match m 12 4 rfl), bit_of_match m 11 rfl]
    rfl

/-! ### The rows of laid-out words -/

/-- A well-formed instruction's word has the opcode bits of its row; where the row fixes a field (S of the tests, W of the
post-indexed transfers), well-formedness says its value. -/
theorem matches_encode {i : Instr} (wf : i.wellFormed = true) : i.tableRow.matches (encode i) = true := by
  cases i with
  | andImm f | eorImm f | subImm f | rsbImm f | addImm f | adcImm f | sbcImm f | rscImm f | orrImm f | movImm f
  | bicImm f | mvnImm f =>
    refine (matches_arm_iff rfl _).2 ?_
    simp [Instr.tableRow, encodeDpImm, DpOp.bits, append_and]
  | tstImm f | teqImm f | cmpImm f | cmnImm f =>
    refine (matches_arm_iff rfl _).2 ?_
    have set : f.s = true := wf
    simp [Instr.tableRow, encodeDpImm, DpOp.bits, append_and, set]
  | andRegImm f | eorRegImm f | subRegImm f | rsbRegImm f | addRegImm f | adcRegImm f | sbcRegImm f | rscRegImm f
  | orrRegImm f | movRegImm f | bicRegImm f | mvnRegImm f =>
    refine (matches_arm_iff rfl _).2 ?_
    simp [Instr.tableRow, encodeDpRegImm, DpOp.bits, append_and]
  | tstRegImm f | teqRegImm f | cmpRegImm f | cmnRegImm f =>
    refine (matches_arm_iff rfl _).2 ?_
    have set : f.s = true := wf
    simp [Instr.tableRow, encodeDpRegImm, DpOp.bits, append_and, set]
  | andRegReg f | eorRegReg f | subRegReg f | rsbRegReg f | addRegReg f | adcRegReg f | sbcRegReg f | rscRegReg f
  | orrRegReg f | movRegReg f | bicRegReg f | mvnRegReg f =>
    refine (matches_arm_iff rfl _).2 ?_
    simp [Instr.tableRow, encodeDpRegReg, DpOp.bits, append_and]
  | tstRegReg f | teqRegReg f | cmpRegReg f | cmnRegReg f =>
    refine (matches_arm_iff rfl _).2 ?_
    have set : f.s = true := wf
    simp [Instr.tableRow, encodeDpRegReg, DpOp.bits, append_and, set]
  | mrs f =>
    refine (matches_arm_iff rfl _).2 ?_
    simp [Instr.tableRow, encodeMrs, append_and]
  | msrReg f =>
    refine (matches_arm_iff rfl _).2 ?_
    simp [Instr.tableRow, encodeMsrReg, append_and]
  | msrImm f =>
    refine (matches_arm_iff rfl _).2 ?_
    simp [Instr.tableRow, encodeMsrImm, append_and]
  | mul f | mla f =>
    refine (matches_arm_iff rfl _).2 ?_
    simp [Instr.tableRow, encodeMul, append_and]
  | umull f | umlal f | smull f | smlal f =>
    refine (matches_arm_iff rfl _).2 ?_
    simp [Instr.tableRow, encodeMulLong, append_and]
  | swp f | swpb f =>
    refine (matches_arm_iff rfl _).2 ?_
    simp [Instr.tableRow, encodeSwp, append_and]
  | bx f =>
    refine (matches_arm_iff rfl _).2 ?_
    simp [Instr.tableRow, encodeBx, append_and]
  | strhReg f | ldrhReg f | ldrsbReg f | ldrshReg f =>
    refine (matches_arm_iff rfl _).2 ?_
    simp [Instr.tableRow, encodeHdtReg, append_and]
  | strhImm f | ldrhImm f | ldrsbImm f | ldrshImm f =>
    refine (matches_arm_iff rfl _).2 ?_
    simp [Instr.tableRow, encodeHdtImm, append_and]
  | ldrImmPre f | strImmPre f | ldrbImmPre f | strbImmPre f =>
    refine (matches_arm_iff rfl _).2 ?_
    simp [Instr.tableRow, encodeSdtImm, append_and]
  | ldrImmPost f | strImmPost f | ldrbImmPost f | strbImmPost f =>
    refine (matches_arm_iff rfl _).2 ?_
    have clear : f.w = false := (Bool.not_eq_true' _).mp wf
    simp [Instr.tableRow, encodeSdtImm, append_and, clear]
  | ldrtImm f | strtImm f | ldrbtImm f | strbtImm f =>
    refine (matches_arm_iff rfl _).2 ?_
    have set : f.w = true := wf
    simp [Instr.tableRow, encodeSdtImm, append_and, set]
  | ldrRegPre f | strRegPre f | ldrbRegPre f | strbRegPre f =>
    refine (matches_arm_iff rfl _).2 ?_
    simp [Instr.tableRow, encodeSdtReg, append_and]
  | ldrRegPost f | strRegPost f | ldrbRegPost f | strbRegPost f =>
    refine (matches_arm_iff rfl _).2 ?_
    have clear : f.w = false := (Bool.not_eq_true' _).mp wf
    simp [Instr.tableRow, encodeSdtReg, append_and, clear]
  | ldrtReg f | strtReg f | ldrbtReg f | strbtReg f =>
    refine (matches_arm_iff rfl _).2 ?_
    have set : f.w = true := wf
    simp [Instr.tableRow, encodeSdtReg, append_and, set]
  | ldm f | stm f =>
    refine (matches_arm_iff rfl _).2 ?_
    simp [Instr.tableRow, encodeBdt, append_and]
  | b f | bl f =>
    refine (matches_arm_iff rfl _).2 ?_
    simp [Instr.tableRow, encodeBranch, append_and]
  | stc f | ldc f =>
    refine (matches_arm_iff rfl _).2 ?_
    simp [Instr.tableRow, encodeCdt, append_and]
  | cdp f =>
    refine (matches_arm_iff rfl _).2 ?_
    simp [Instr.tableRow, encodeCdo, append_and]
  | mcr f | mrc f =>
    refine (matches_arm_iff rfl _).2 ?_
    simp [Instr.tableRow, encodeCrt, append_and]
  | swi f =>
    refine (matches_arm_iff rfl _).2 ?_
    simp [Instr.tableRow, encodeSwi, append_and]
  | tLslImm f | tLsrImm f | tAsrImm f =>
    refine (matches_thumb_iff rfl _).2 ?_
    simp [Instr.tableRow, encodeTShift, append_and]
  | tAddReg f | tSubReg f =>
    refine (matches_thumb_iff rfl _).2 ?_
    simp [Instr.tableRow, encodeTAddSubReg, append_and]
  | tAddImm3 f | tSubImm3 f =>
    refine (matches_thumb_iff rfl _).2 ?_
    simp [Instr.tableRow, encodeTAddSubImm, append_and]
  | tMovImm8 f | tCmpImm8 f | tAddImm8 f | tSubImm8 f =>
    refine (matches_thumb_iff rfl _).2 ?_
    simp [Instr.tableRow, encodeTImm8, append_and]
  | tAnd f | tEor f | tLslReg f | tLsrReg f | tAsrReg f | tAdc f | tSbc f | tRor f | tTst f | tNeg f | tCmpReg f
  | tCmn f | tOrr f | tMul f | tBic f | tMvn f =>
    refine (matches_thumb_iff rfl _).2 ?_
    simp [Instr.tableRow, encodeTAlu, append_and]
  | tAddHi f | tCmpHi f | tMovHi f =>
    refine (matches_thumb_iff rfl _).2 ?_
    simp [Instr.tableRow, encodeTHigh, append_and]
  | tBx f =>
    refine (matches_thumb_iff rfl _).2 ?_
    simp [Instr.tableRow, encodeTBx, append_and]
  | tLdrPc f | tStrSp f | tLdrSp f | tAddPc f | tAddSp f =>
    refine (matches_thumb_iff rfl _).2 ?_
    simp [Instr.tableRow, encodeTRdWord8, append_and]
  | tStrReg f | tStrbReg f | tLdrReg f | tLdrbReg f | tStrhReg f | tLdsb f | tLdrhReg f | tLdsh f =>
    refine (matches_thumb_iff rfl _).2 ?_
    simp [Instr.tableRow, encodeTRegOff, append_and]
  | tStrImm f | tLdrImm f | tStrbImm f | tLdrbImm f | tStrhImm f | tLdrhImm f =>
    refine (matches_thumb_iff rfl _).2 ?_
    simp [Instr.tableRow, encodeTImmOff, append_and]
  | tPush f | tPop f =>
    refine (matches_thumb_iff rfl _).2 ?_
    simp [Instr.tableRow, encodeTPushPop, append_and]
  | tStmia f | tLdmia f =>
    refine (matches_thumb_iff rfl _).2 ?_
    simp [Instr.tableRow, encodeTBlock, append_and]
  | tBeq f | tBne f | tBcs f | tBcc f | tBmi f | tBpl f | tBvs f | tBvc f | tBhi f | tBls f | tBge f | tBlt f | tBgt f
  | tBle f =>
    refine (matches_thumb_iff rfl _).2 ?_
    simp [Instr.tableRow, encodeTBranch, Cond.bits, append_and]
  | tAddSpImm7 f | tSubSpImm7 f | tSwi f | tB f | tBlHi f | tBlLo f =>
    refine (matches_thumb_iff rfl _).2 ?_
    simp [Instr.tableRow, append_and]

/-! ### The settled statements -/

/-- Settles O2: the instruction's word matches its row, and a word that matches a row is decoded by it. -/
theorem decodeEncode : Obligations.DecodeEncode := by
  intro i wf
  obtain ⟨j, decoded, -, same⟩ := decodesByRow i (encode i) (matches_encode wf)
  rw [decoded, same wf rfl]

/-- The row of the instruction a word decodes to matches the word. -/
theorem matches_of_decode {e : Encoding} {i : Instr} (decoded : decode e = some i) : i.tableRow.matches e = true := by
  obtain ⟨wf, word⟩ := encodeDecode e i decoded
  rw [← word]
  exact matches_encode wf

/-- Settles O4: a word that matches a row decodes to an instruction of that row, and decoding has one answer. -/
theorem rowsMatchExactly : Obligations.RowsMatchExactly := by
  refine fun e => ⟨fun i j hi hj => ?_, fun i => matches_of_decode, fun undecodable i => ?_, fun none_matches => ?_⟩
  · obtain ⟨k, decoded, row, -⟩ := decodesByRow i e hi
    obtain ⟨k', decoded', row', -⟩ := decodesByRow j e hj
    cases decoded.symm.trans decoded'
    exact row.symm.trans row'
  · refine Bool.eq_false_of_not_eq_true fun hit => ?_
    obtain ⟨j, decoded, -⟩ := decodesByRow i e hit
    cases undecodable.symm.trans decoded
  · cases decoded : decode e with
    | none => rfl
    | some i => cases (matches_of_decode decoded).symm.trans (none_matches i)

end Sys2Proof.Proofs
end

section
/-!
PROOF. The undecodable patterns (spec/30_encoding.md R116, R139): each space of the two decoders says which of its words
it refuses.
-/

namespace Sys2Proof.Proofs

open Sys2Proof.Machine Sys2Proof.Claims

/-- A test answers `none` where one of its branches does. -/
theorem ite_eq_none_iff {c : Prop} [Decidable c] {a b : Option Instr} :
    (if c then a else b) = none ↔ (c ∧ a = none) ∨ (¬ c ∧ b = none) := by
  by_cases c <;> simp [*]

/-! ### The 16-bit decoder -/

section
variable {h : Half}

theorem decodeFormat5_eq_none_iff : decodeFormat5 h = none ↔
    h.extractLsb' 8 2 = 0b11#2 ∧ (h.getLsbD 7 = true ∨ h.extractLsb' 0 3 ≠ 0b000#3) := by
  have bits8 : h.extractLsb' 8 2 = bit1 (h.getLsbD 9) ++ bit1 (h.getLsbD 8) := by
    rw [bit1_eq_extractLsb' h 9, append_bit]
  rw [bits8]
  unfold decodeFormat5
  cases h.getLsbD 9 <;> cases h.getLsbD 8 <;> cases h.getLsbD 7 <;> simp [bit1]

theorem decodeFormat13and14_eq_none_iff : decodeFormat13and14 h = none ↔
    h.extractLsb' 8 4 ≠ 0b0000#4 ∧ h.extractLsb' 9 2 ≠ 0b10#2 := by
  unfold decodeFormat13and14
  simp only [beq_iff_eq]
  repeat' split
  all_goals simp [*]

theorem decodeFormat16and17_eq_none_iff : decodeFormat16and17 h = none ↔ h.extractLsb' 8 4 = 14#4 := by
  obtain ⟨cond, lt, field⟩ : ∃ n, n < 16 ∧ h.extractLsb' 8 4 = BitVec.ofNat 4 n :=
    ⟨(h.extractLsb' 8 4).toNat, (h.extractLsb' 8 4).isLt, by rw [BitVec.ofNat_toNat, BitVec.setWidth_eq]⟩
  unfold decodeFormat16and17
  rw [field]
  interval_cases cond <;> simp

/-- The refused halfwords of R139, by format; the last is the unused class 11101. -/
theorem decodeThumb_eq_none_iff : decodeThumb h = none ↔
    (h.extractLsb' 10 6 = 0b010001#6 ∧ decodeFormat5 h = none) ∨
    (h.extractLsb' 12 4 = 0b1011#4 ∧ decodeFormat13and14 h = none) ∨
    (h.extractLsb' 12 4 = 0b1101#4 ∧ decodeFormat16and17 h = none) ∨
    h.extractLsb' 11 5 = 0b11101#5 := by
  constructor
  · intro undecodable
    simp only [decodeThumb, ite_eq_none_iff, beq_iff_eq, reduceCtorEq, and_false, false_or, or_false, and_true]
      at undecodable
    obtain ⟨-, -, -, format5 | ⟨-, -, -, -, -, -, -, format13and14 | ⟨-, -, format16and17 | ⟨-, -, unallocated⟩⟩⟩⟩ :=
      undecodable
    · exact .inl format5
    · exact .inr (.inl format13and14)
    · exact .inr (.inr (.inl format16and17))
    · exact .inr (.inr (.inr unallocated))
  · rintro (⟨form, refused⟩ | ⟨form, refused⟩ | ⟨form, refused⟩ | form)
    · rw [decodeThumb_format5 form, refused]
    · rw [decodeThumb_format13and14 form, refused]
    · rw [decodeThumb_format16and17 form, refused]
    · exact decodeThumb_unallocated form

/-- The undecodable halfwords as ranges (R139). -/
theorem decodeThumb_eq_none_iff_ranges : decodeThumb h = none ↔
    (0xB100 ≤ h.toNat ∧ h.toNat ≤ 0xB3FF) ∨ (0xB600 ≤ h.toNat ∧ h.toNat ≤ 0xBBFF) ∨
    (0xBE00 ≤ h.toNat ∧ h.toNat ≤ 0xBFFF) ∨ (0xDE00 ≤ h.toNat ∧ h.toNat ≤ 0xDEFF) ∨
    (0xE800 ≤ h.toNat ∧ h.toNat ≤ 0xEFFF) ∨
    (0x4700 ≤ h.toNat ∧ h.toNat ≤ 0x47FF ∧ (h.getLsbD 7 = true ∨ h.extractLsb' 0 3 ≠ 0#3)) := by
  have reserved : (h.extractLsb' 10 6 = 0b010001#6 ∧ h.extractLsb' 8 2 = 0b11#2) ↔
      0x4700 ≤ h.toNat ∧ h.toNat ≤ 0x47FF := by
    simp only [extractLsb'_eq_iff, BitVec.reduceToNat]
    omega
  rw [decodeThumb_eq_none_iff, decodeFormat5_eq_none_iff, decodeFormat13and14_eq_none_iff,
    decodeFormat16and17_eq_none_iff, ← and_assoc, reserved, and_assoc]
  generalize (h.getLsbD 7 = true ∨ h.extractLsb' 0 3 ≠ 0#3) = fields
  simp only [extractLsb'_eq_iff, BitVec.reduceToNat, ne_eq]
  have bound := h.isLt
  by_cases set : fields
  · simp only [set, and_true]
    omega
  · simp only [set, and_false, or_false, false_or]
    omega

end

/-! ### The 32-bit decoder -/

section
variable {w : Word}

theorem decodePsr_eq_none_iff : decodePsr w = none ↔
    w &&& 0x0FBF0FFF#32 ≠ 0x010F0000#32 ∧ w &&& 0x0FB0FFF0#32 ≠ 0x0120F000#32 ∧
      w &&& 0x0FB0F000#32 ≠ 0x0320F000#32 := by
  simp only [decodePsr, ite_eq_none_iff, beq_iff_eq, reduceCtorEq, and_false, false_or, and_true, ne_eq]

theorem decodeExtension_eq_none_iff : decodeExtension w = none ↔
    (w.extractLsb' 5 2 = 0b00#2 ∧ w.extractLsb' 22 6 ≠ 0b000000#6 ∧ w.extractLsb' 23 5 ≠ 0b00001#5 ∧
      w &&& 0x0FB00FF0#32 ≠ 0x01000090#32) ∨
    (w.extractLsb' 5 2 ≠ 0b00#2 ∧ w.getLsbD 20 = false ∧ w.getLsbD 6 = true) := by
  unfold decodeExtension
  repeat' split
  all_goals simp_all [-BitVec.getLsbD_eq_getElem]

/-- The class 000 of R103 with bits 7 and 4 set, by its refused words. -/
theorem undecodable_extension_iff :
    (w.extractLsb' 25 3 = 0b000#3 ∧ w.getLsbD 7 = true ∧ w.getLsbD 4 = true ∧ decodeExtension w = none) ↔
    (w.extractLsb' 25 3 = 0b000#3 ∧ w.extractLsb' 4 4 = 0b1001#4 ∧ w.extractLsb' 22 3 = 0b001#3) ∨
    (w.extractLsb' 24 4 = 0b0001#4 ∧ w.extractLsb' 4 4 = 0b1001#4 ∧ w &&& 0x0FB00FF0#32 ≠ 0x01000090#32) ∨
    (w.extractLsb' 25 3 = 0b000#3 ∧ w.getLsbD 7 = true ∧ w.getLsbD 4 = true ∧ w.getLsbD 20 = false ∧
      w.getLsbD 6 = true) := by
  have swp : w &&& 0x0FB00FF0#32 = 0x01000090#32 → w.extractLsb' 24 4 = 0b0001#4 := fun m => field_of_match m 24 4 rfl
  rw [decodeExtension_eq_none_iff]
  generalize w &&& 0x0FB00FF0#32 = masked at swp ⊢
  simp only [extractLsb'_eq_iff, getLsbD_eq_true_iff, getLsbD_eq_false_iff, BitVec.reduceToNat, ne_eq] at swp ⊢
  by_cases isSwp : masked = 0x01000090#32
  · have bits24 := swp isSwp
    simp only [isSwp, not_true, and_false, false_or]
    omega
  · simp only [isSwp, not_false_iff, and_true]
    omega

/-- The refused words of R115: by the multiply, swap and halfword space, by the status-register space, and the register
transfers with bit 4 set. -/
theorem decodeArm_eq_none_iff : decodeArm w = none ↔
    (w.extractLsb' 25 3 = 0b000#3 ∧ w.getLsbD 7 = true ∧ w.getLsbD 4 = true ∧ decodeExtension w = none) ∨
    (w.extractLsb' 26 2 = 0b00#2 ∧ w.extractLsb' 23 2 = 0b10#2 ∧ w.getLsbD 20 = false ∧
      ¬ (w.getLsbD 25 = false ∧ w.getLsbD 7 = true ∧ w.getLsbD 4 = true) ∧ decodePsr w = none ∧
      w &&& 0x0FFFFFF0#32 ≠ 0x012FFF10#32) ∨
    (w.extractLsb' 25 3 = 0b011#3 ∧ w.getLsbD 4 = true) := by
  constructor
  · intro undecodable
    simp only [decodeArm, cond15_test, ite_eq_none_iff, beq_iff_eq, reduceCtorEq, and_false, false_or, or_false,
      and_true, Bool.false_eq_true, not_false_iff, true_and, Bool.and_eq_true, Bool.not_eq_true', and_assoc]
      at undecodable
    obtain ⟨notBx, ⟨class00, ⟨bit25, bit7, bit4, refused⟩ | ⟨notExtension, opcode, bit20, refused⟩⟩ |
      ⟨-, class01, bit25, bit4⟩⟩ := undecodable
    · exact .inl ⟨form_of_class class00 bit25, bit7, bit4, refused⟩
    · exact .inr (.inl ⟨class00, opcode, bit20, notExtension, refused, notBx⟩)
    · exact .inr (.inr ⟨form_of_class class01 (Bool.eq_true_of_not_eq_false bit25), bit4⟩)
  · rintro (⟨form, bit7, bit4, refused⟩ | ⟨class00, opcode, bit20, notExtension, refused, notBx⟩ | ⟨form, bit4⟩)
    · rw [decodeArm_extension form bit7 bit4, refused]
    · rw [decodeArm_psr (form_of_class class00 rfl) opcode bit20 (by simpa [and_assoc] using notExtension)
        (beq_eq_false_iff_ne.2 notBx), refused]
    · exact decodeArm_media form bit4

end

/-- Settles O5: the spaces' refused words, as arithmetic on the halfword and as fields of the word. -/
theorem undecodablePatterns : Obligations.UndecodablePatterns := by
  refine ⟨fun h => decodeThumb_eq_none_iff_ranges, fun w => ?_⟩
  rw [decodeArm_eq_none_iff, undecodable_extension_iff, decodePsr_eq_none_iff]
  simp only [or_assoc, and_assoc]

end Sys2Proof.Proofs
end
